-- ==== Sys2Proof/Word.lean ====
section
/-! DEFINITION. The word types of the SQ64: halfwords, 32-bit values, pattern-memory addresses, and the indexes of
ports, trigger lines and segment entries (00_scope.md, Conventions). -/

namespace Sys2Proof

/-- A halfword: the unit of every register, pattern-memory address and length (Table 0-2). -/
abbrev HW := BitVec 16

/-- The value of a 32-bit register pair (10.2). -/
abbrev Word := BitVec 32

/-- A pattern-memory address: a 25-bit halfword address (R159). -/
abbrev Addr := BitVec 25

/-- Ports A, B, C, D are 0, 1, 2, 3, as MPORT and the port flags number them (Table 12-8, 12.2). -/
abbrev Port := Fin 4

/-- Trigger lines TRG0 to TRG3. -/
abbrev Line := Fin 4

/-- The index of a segment entry, 0 to 63 (R33). -/
abbrev SegIdx := Fin 64

end Sys2Proof
end

