-- ==== Sys2Proof/Syntax.lean ====
section
/-! DEFINITION. The commands of the SQ64: one constructor for each row of spec/opcode_table.json, with the operands the
row's rule gives it (the halfword written, the register of a group, the pad levels sampled). -/

namespace Sys2Proof

/-- The fourteen 32-bit values that occupy two offsets, in the order 10.2 lists them. -/
inductive Pair where
  | vcount | failcount | dropcount | logseq | ffvnum | logbase | logsize | loglevel | logwp | logrp
  | zbase | zlimit | waddr | mopcount
  deriving DecidableEq, Repr

/-- Which value of the selected timing set a write replaces (R24). -/
inductive TsetField where
  | per | drv | stb
  deriving DecidableEq, Repr

/-- The registers of a breakpoint unit (R110). -/
inductive BpReg where
  | ctl | seg | off | iter
  deriving DecidableEq, Repr

/-- The registers of the selected zone descriptor (R161). -/
inductive ZoneReg where
  | zbase | zlimit | zattr
  deriving DecidableEq, Repr

/-- The commands. The host's commands and register accesses come first, then the part's own steps, then the resets. -/
inductive Instr where
  /-- START (R102) -/
  | start
  /-- ARM (R105) -/
  | arm
  /-- PAUSE (R107) -/
  | pause
  /-- RESUME (R109) -/
  | resume
  /-- STEP (R109) -/
  | step
  /-- ABORT (R121) -/
  | abort
  /-- CLEAR (R125) -/
  | clear
  /-- SEG_WRITE, entry index in CARG0 (R41) -/
  | segWrite
  /-- SEG_READ (R42) -/
  | segRead
  /-- SEG_READY (R43) -/
  | segReady
  /-- SEG_UNREADY (R44) -/
  | segUnready
  /-- LOG_RESET (R144) -/
  | logReset
  /-- FILL, arguments in CARG0 to CARG4 (R187) -/
  | fill
  /-- COPY, arguments in CARG0 to CARG5 (R187) -/
  | copy
  /-- PATCH, arguments in CARG0 to CARG3 (R188) -/
  | patch
  /-- MEMOP_CANCEL (R186) -/
  | memopCancel
  /-- SOFT_RESET (R191); the operand is how many halfwords a log-writer grant in progress has written (R148). -/
  | softReset (transferred : Nat)
  /-- A write of CMD with an unassigned code (R180). -/
  | illegalCmd (code : HW)
  /-- A write of the port's PORTCFG register (R4). -/
  | portcfgWrite (port : Port) (value : HW)
  /-- A write of TSETSEL (R24). -/
  | tsetselWrite (value : HW)
  /-- A write of TSETPER, TSETDRV or TSETSTB (R24). -/
  | tsetValueWrite (field : TsetField) (value : HW)
  /-- A write of STARTSEG (R50). -/
  | startsegWrite (value : HW)
  /-- A write of ARMCFG (R106). -/
  | armcfgWrite (value : HW)
  /-- A write of STARVETO (R118). -/
  | starvetoWrite (value : HW)
  /-- A write of FAILPOLICY (R119). -/
  | failpolicyWrite (value : HW)
  /-- A write of FAILLIMIT (R119). -/
  | faillimitWrite (value : HW)
  /-- A write of a register of breakpoint unit 0 or 1 (R110). -/
  | breakpointWrite (bpUnit : Fin 2) (reg : BpReg) (value : HW)
  /-- A write of a staging register (R40). -/
  | segstageWrite (index : Fin 12) (value : HW)
  /-- The completing write of LOGBASE, with the high halfword (R137, R179). -/
  | logbaseWrite (high : HW)
  /-- The completing write of LOGSIZE (R137, R179). -/
  | logsizeWrite (high : HW)
  /-- The completing write of LOGLEVEL (R137, R179). -/
  | loglevelWrite (high : HW)
  /-- The completing write of LOGRP (R143, R179). -/
  | logrpWrite (high : HW)
  /-- A write of TRGCFG (R151). -/
  | trgcfgWrite (value : HW)
  /-- A write of TRGSTAT (R153). -/
  | trgstatWrite (value : HW)
  /-- A write of ZONESEL (R161). -/
  | zoneselWrite (value : HW)
  /-- A write of ZATTR, or the completing write of ZBASE or ZLIMIT with the high halfword (R162). -/
  | zoneDescriptorWrite (reg : ZoneReg) (value : HW)
  /-- A write of REFINT (R165). -/
  | refintWrite (value : HW)
  /-- A write of MEMSTAT (R171). -/
  | memstatWrite (value : HW)
  /-- The completing write of WADDR (R181, R179). -/
  | waddrWrite (high : HW)
  /-- A write of WINCTL (R181). -/
  | winctlWrite (value : HW)
  /-- A read of WDATA (R182). -/
  | wdataRead
  /-- A write of WDATA (R184). -/
  | wdataWrite (value : HW)
  /-- A read of the low halfword of a pair (R178). -/
  | pairLowRead (pair : Pair)
  /-- A write of the low halfword of a pair (R179). -/
  | pairLowWrite (pair : Pair) (value : HW)
  /-- A write of EVFLAG (R195). -/
  | evflagWrite (value : HW)
  /-- A write of EVENABLE (R193). -/
  | evenableWrite (value : HW)
  /-- A write of EVCTL (R193). -/
  | evctlWrite (value : HW)
  /-- A write to a register with no behaviour of its own, a read-only register or an unassigned offset (R177, R180). -/
  | registerWrite (offset : BitVec 7) (value : HW)
  /-- The walker arrives at an entry (R57). -/
  | walkerArrival
  /-- The walker pushes the WAIT item of its entry (R61). -/
  | waitItemPush
  /-- The walker fetches one record (R62). -/
  | recordFetch
  /-- The walker leaves its entry (R65). -/
  | walkerLeaving
  /-- The applier in PRIMING begins a stream (R82). -/
  | streamBegin
  /-- The current vector's period ends (R84). -/
  | periodEnd
  /-- The drive edge, at tick DRV (R89). -/
  | driveEdge
  /-- The strobe, at tick STB (R90); the operand holds the levels at the pads of ports A to D at that moment. -/
  | strobe (pads : Vector HW 4)
  /-- The sample of a MATCH wait, at tick STB of a wait period (R114), with the levels at the pads. -/
  | matchSample (pads : Vector HW 4)
  /-- A wait period ends (R115). -/
  | waitPeriodEnd
  /-- The starvation timer reaches its limit (R117). -/
  | starvetoExpiry
  /-- The level at a trigger line's pad changes: rising or falling (R152). -/
  | triggerEdge (line : Line) (rising : Bool)
  /-- A log writer grant ends with the publication of its record (R141). -/
  | recordPublication
  /-- The refresh timer ends an interval (R166). -/
  | refreshTimerExpiry
  /-- A refresh grant completes (R166). -/
  | refreshCompletion
  /-- The DRAM initialization sequence ends (R160). -/
  | memInitEnd
  /-- A window engine grant writes the oldest posted write of its unit, which leaves the buffer; the row that writes the
  last of the unit ends the grant (R184, R185; log entry 10). -/
  | postedWriteDrain
  /-- A window engine grant reads halfwords for the data port (R182). -/
  | readAheadFetch
  /-- A burst of a FILL (R187). -/
  | fillBurst
  /-- The read grant of a COPY burst (R187). -/
  | copyReadBurst
  /-- The write grant of a COPY burst (R187). -/
  | copyWriteBurst
  /-- The read-modify-write grant of a PATCH (R188). -/
  | patchGrant
  /-- Power-on reset, with the level of the MSIZE pins (R172). -/
  | por (msize : BitVec 2)
  /-- RESET_N goes low (R173); the operand is how many halfwords the grant in progress has transferred. -/
  | resetNAssert (transferred : Nat)
  /-- RESET_N returns high (R190). -/
  | resetNRelease
  deriving DecidableEq, Repr

end Sys2Proof
end

