-- ==== Sys2Proof/Decode.lean ====
section
/-! DEFINITION. spec/opcode_table.json gives no row bits: a command of this block is an access, a pin event or the end of
a unit of work, and no word spells one. So no word decodes. -/

namespace Sys2Proof

/-- The command a word spells by the table's bits: none, since the table gives no row bits. -/
def decodeTableWord (_nbits _w : Nat) : Option Instr := none

end Sys2Proof
end

