-- ==== Sys2Proof/Config.lean ====
section
/-! DEFINITION. The free values: what the manual leaves open and the part goes on with. Neither constant has a body, so
nothing can be proved of the values they give. -/

namespace Sys2Proof

/-- The contents of pattern memory after a power-on reset are unknown until written (R160): an arbitrary halfword for
each power-on (first argument) and each address (second argument). Log entry 2; safe. -/
opaque Config.powerOnHalfword : Nat → Nat → HW

/-- After a missed refresh, a read of a halfword not written since may return any value, a different one each time
(R166): an arbitrary halfword for each value of the model's fresh-value counter. Log entry 3; safe. -/
opaque Config.decayedHalfword : Nat → HW

end Sys2Proof
end

