-- ==== Sys2Proof/Machine/State.lean ====
section
/-! DEFINITION. The state of the SQ64, block by block as Table 0-1 names the blocks and what each owns, and its value
right after power-on reset. Plain data throughout. -/

namespace Sys2Proof.Machine

/-! ## Pin ports (01_pins_ports_and_lanes.md) -/

/-- WIDTH of a port's lanes (Table 1-1). -/
inductive Width where
  | w1 | w4 | w8 | w16
  deriving DecidableEq, Repr

/-- KIND: the comparison applied to each lane (Table 1-1). -/
inductive CompareKind where
  | eq | ule | uge | sle | sge
  deriving DecidableEq, Repr

/-- PARK: the state a parked port's pins take (Table 1-2). -/
inductive Park where
  | hiz | low | high | hold
  deriving DecidableEq, Repr

/-- A port's configuration record (R1). `enabled` is ENABLE = ENABLED. -/
structure PortCfg where
  enabled : Bool
  width : Width
  kind : CompareKind
  park : Park
  deriving DecidableEq, Repr

/-- The live state of a port's 16 pins (R6): bit k of `dir` is 1 when pin k is in direction DRIVE, bit k of `level` is
its drive level. -/
structure PinState where
  dir : HW
  level : HW
  deriving DecidableEq, Repr

/-- The pin ports block. -/
structure Ports where
  cfg : Vector PortCfg 4
  pins : Vector PinState 4
  deriving DecidableEq, Repr

/-! ## Timing sets (02_vector_records_and_timing_sets.md) -/

/-- One timing set (R23). -/
structure TimingSet where
  per : HW
  drv : HW
  stb : HW
  deriving DecidableEq, Repr

/-- TSETSEL and the eight sets (R23). -/
structure TimingSets where
  sel : Fin 8
  sets : Vector TimingSet 8
  deriving DecidableEq, Repr

/-! ## Segment table (03_the_segment_table.md) -/

/-- A segment entry or an entry image: the twelve halfwords of Table 12-8, every bit as stored (R33). -/
abbrev SegImage := Vector HW 12

/-- The segment table block. -/
structure SegTable where
  entries : Vector SegImage 64
  stage : SegImage
  lastrel : BitVec 7
  startseg : BitVec 7
  deriving DecidableEq, Repr

/-! ## Walker and prefetch queue (04_the_walker_and_the_prefetch_queue.md) -/

/-- Position tags (R71): segment index, vector offset, repeat iteration and loop pass. -/
structure Tags where
  seg : BitVec 7
  off : HW
  iter : BitVec 12
  pass : HW
  deriving DecidableEq, Repr

/-- Tags all 0. -/
def Tags.zero : Tags := ⟨0, 0, 0, 0⟩

/-- Fault codes, in the order of Table 12-7. -/
inductive FaultCode where
  | none | underrun | badSegment | badVector | mixedLane | fetchZone | loopOverflow | loopUnderflow
  | loopUnclosed | waitTimeout | starveTimeout | portStandby
  deriving DecidableEq, Repr

/-- A port part of a vector record (R18). -/
structure PortPart where
  dir : HW
  data : HW
  care : HW
  deriving DecidableEq, Repr

/-- A decoded vector (Table 2-8); an absent port has no part. -/
structure DecodedVector where
  tset : Fin 8
  timing : TimingSet
  parts : Vector (Option PortPart) 4
  mark : Bool
  capture : Bool
  deriving DecidableEq, Repr

/-- The kinds of wait that a WAIT item can carry (R71). -/
inductive WaitKind where
  | trigger | levels
  deriving DecidableEq, Repr

/-- What a WAIT item holds besides its tags (Table 4-3). `levels` is a MATCH wait; `skip` is TOACT = SKIP. -/
structure WaitItem where
  kind : WaitKind
  line : Line
  mport : Port
  mexp : HW
  mcare : HW
  wtset : Fin 8
  timing : TimingSet
  timeout : BitVec 20
  skip : Bool
  deriving DecidableEq, Repr

/-- An item of the prefetch queue (R71); every item carries position tags. -/
inductive Item where
  | vector (v : DecodedVector) (tags : Tags) (endOfPass : Bool)
  | wait (w : WaitItem) (tags : Tags)
  | endChain (tags : Tags)
  | fault (code : FaultCode) (tags : Tags)
  deriving DecidableEq, Repr

/-- Walker states, in the order of Table 12-4. -/
inductive WalkerState where
  | stopped | walking | stallFull | stallReady | stallWait | done
  deriving DecidableEq, Repr

/-- The step the walker takes next (R56, R72). An arrival knows whether it is a loop-back (R60, R66); `leaveAlt` is the
leaving through ALT that a timed-out SKIP wait asks for (R76). -/
inductive WalkStep where
  | none
  | arrive (entry : SegIdx) (loopBack : Bool)
  | pushWait
  | fetch
  | leave
  | leaveAlt
  deriving DecidableEq, Repr

/-- An element of the loop stack (R55). -/
structure LoopElem where
  entry : SegIdx
  remaining : HW
  pass : HW
  deriving DecidableEq, Repr

/-- The current entry: its index and the copy taken at the arrival (R52). -/
structure CurrentEntry where
  idx : SegIdx
  img : SegImage
  deriving DecidableEq, Repr

/-- The walker (Table 4-1). The head of `stack` is the innermost open loop. -/
structure Walker where
  st : WalkerState
  cur : Option CurrentEntry
  pend : Option SegIdx
  next : WalkStep
  tags : Tags
  fetchAddr : Nat
  stack : List LoopElem
  deriving DecidableEq, Repr

/-- The walker after POR, RESET_N, SOFT_RESET and entry to STOPPING (R52, R78, R79). -/
def Walker.stoppedState : Walker :=
  { st := .stopped, cur := none, pend := none, next := .none, tags := Tags.zero, fetchAddr := 0, stack := [] }

/-! ## Vector applier (05_applying_vectors.md) -/

/-- Stream states (R81). -/
inductive Stream where
  | held | priming | streaming
  deriving DecidableEq, Repr

/-- The current vector and its period (R80, R87, R88): its number in the run, the tick within the period, and whether
its drive edge and its strobe have been taken. -/
structure Period where
  vec : DecodedVector
  tags : Tags
  endOfPass : Bool
  vnum : Word
  tick : Nat
  driven : Bool
  strobed : Bool
  deriving DecidableEq, Repr

/-- The wait in progress (R96, R112 to R116): the remaining count, the tick within the wait period, whether this period's
sample has been taken, and the latest sample's observed value and mismatch word. -/
structure WaitProgress where
  item : WaitItem
  tags : Tags
  remaining : BitVec 20
  tick : Nat
  sampled : Bool
  observed : HW
  mismatch : HW
  deriving DecidableEq, Repr

/-- FIRSTFAIL (R94). -/
structure FirstFail where
  tags : Tags
  vnum : Word
  deriving DecidableEq, Repr

/-- PASSDONE (R98). -/
structure PassDone where
  seg : BitVec 7
  iter : BitVec 12
  pass : HW
  deriving DecidableEq, Repr

/-- PASSDONE with no pass done: segment index 127, iteration and pass 0 (R98). -/
def PassDone.cleared : PassDone := ⟨127, 0, 0⟩

/-- FIRSTFAIL before the first failure (R94). -/
def FirstFail.cleared : FirstFail := ⟨Tags.zero, 0⟩

/-- The applier (Table 5-1) and the run counters. -/
structure Applier where
  stream : Stream
  period : Option Period
  skipOnce : Bool
  wait : Option WaitProgress
  passdone : PassDone
  vcount : Word
  failcount : Word
  firstfail : FirstFail
  deriving DecidableEq, Repr

/-! ## Run control (06_run_control.md) -/

/-- Sequencer states, in the order of Table 12-4. -/
inductive SeqState where
  | idle | armed | running | waiting | paused | stopping | ended | faulted
  deriving DecidableEq, Repr

/-- Causes, in the order of Table 12-4. -/
inductive Cause where
  | none | trigger | levels | notReady | host | step | break0 | break1 | fail | complete | failLimit | abort | fault
  deriving DecidableEq, Repr

/-- The fault record (R123). -/
structure FaultRecord where
  code : FaultCode
  pos : Tags
  deriving DecidableEq, Repr

/-- The fault record at 0. -/
def FaultRecord.cleared : FaultRecord := ⟨.none, Tags.zero⟩

/-- A breakpoint unit (R110). -/
structure Breakpoint where
  enable : Bool
  segen : Bool
  offen : Bool
  iteren : Bool
  seg : BitVec 6
  off : HW
  iter : BitVec 12
  deriving DecidableEq, Repr

/-- Run control. `failPause` is FAILPOLICY = PAUSE; `suspended` is the kind of the wait a pause suspended (R100). -/
structure RunControl where
  state : SeqState
  cause : Cause
  suspended : Option Cause
  fault : FaultRecord
  bp : Vector Breakpoint 2
  armcfg : Line
  starveto : HW
  failPause : Bool
  faillimit : HW
  stopReq : Bool
  pauseFail : Bool
  pauseHost : Bool
  pauseStep : Bool
  stepReq : Bool
  starve : Option Nat
  drainAborted : Bool
  deriving DecidableEq, Repr

/-! ## Result log (07_the_result_log.md) -/

/-- Record kinds, in the order of Table 12-10. -/
inductive RecordKind where
  | fail | capture | timeout | endRun
  deriving DecidableEq, Repr

/-- A log record (R133): the header's fields but LENGTH, and the halfwords of its body. -/
structure LogRecord where
  kind : RecordKind
  mask : BitVec 4
  seq : Word
  tags : Tags
  tset : Fin 8
  vnum : Word
  body : List HW
  deriving DecidableEq, Repr

/-- LENGTH: the 9 header halfwords and the body (Table 7-1). -/
def LogRecord.length (r : LogRecord) : Nat := 9 + r.body.length

/-- The result log. The writer's state is computed from these and the grant (R139). -/
structure Log where
  fifo : List LogRecord
  seqno : Word
  dropcount : Word
  base : Addr
  size : BitVec 25
  level : BitVec 24
  wp : BitVec 24
  rp : BitVec 24
  endProduced : Bool
  deriving DecidableEq, Repr

/-! ## Trigger unit (08_trigger_lines.md) -/

/-- MODE of a trigger line, in the order of Table 12-2. -/
inductive TrgMode where
  | input | outMark | outRun | outFail
  deriving DecidableEq, Repr

/-- EDGE of a trigger line, in the order of Table 12-2. -/
inductive TrgEdge where
  | rise | fall | both
  deriving DecidableEq, Repr

/-- A line's field of TRGCFG (R150). -/
structure TrgLine where
  mode : TrgMode
  edge : TrgEdge
  deriving DecidableEq, Repr

/-- The trigger unit: TRGCFG, the latches TRGSTAT, and which output lines are active. -/
structure Trigger where
  lines : Vector TrgLine 4
  latch : BitVec 4
  active : BitVec 4
  deriving DecidableEq, Repr

/-! ## Memory controller and pattern memory (09_pattern_memory.md) -/

/-- KIND of a zone (Table 9-2). -/
inductive ZoneKind where
  | vector | log | data
  deriving DecidableEq, Repr

/-- A zone descriptor (Table 9-2). -/
structure Zone where
  base : Addr
  limit : Addr
  kind : ZoneKind
  wrun : Bool
  enabled : Bool
  deriving DecidableEq, Repr

/-- A posted write (R185). -/
structure PostedWrite where
  addr : Addr
  value : HW
  deriving DecidableEq, Repr

/-- The arguments of an accepted PATCH (R188). -/
structure PatchReq where
  addr : Nat
  andMask : HW
  orMask : HW
  deriving DecidableEq, Repr

/-- Whether a memory-operation burst belongs to the operation in flight, or was left to end by a SOFT_RESET (R191);
the latter knows whether MOPCOUNT still counts it (log entry 12). -/
inductive Owner where
  | live
  | orphan (counted : Bool)
  deriving DecidableEq, Repr

/-- A grant unit of the window engine (Table 9-4). A `live` of false is a unit whose result is no longer wanted by the
window's state: a drain or fetch that runs to its end after its buffer was discarded (R183, R191). -/
inductive WinUnit where
  | drain (writes : List PostedWrite) (live : Bool)
  | fetch (addr n : Nat) (live : Bool)
  | fill (dst n : Nat) (value : HW) (owner : Owner)
  | copyRead (src dst n : Nat) (owner : Owner)
  | copyWrite (dst : Nat) (data : List HW) (owner : Owner)
  | patch (req : PatchReq)
  deriving DecidableEq, Repr

/-- The grant in progress (R168). A walker grant whose `live` is false is read to its end and discarded (R78). -/
inductive Grant where
  | refresh
  | walker (live : Bool)
  | writer
  | window (u : WinUnit)
  deriving DecidableEq, Repr

/-- The memory controller. `ready` is the state READY; `initTicks` counts the settling interval of R160. -/
structure MemCtl where
  ready : Bool
  msize : BitVec 2
  initTicks : Nat
  zones : Vector Zone 8
  zonesel : Fin 8
  refint : HW
  refTimer : Nat
  owed : Nat
  refmiss : Bool
  passover : Nat
  grant : Option Grant
  deriving DecidableEq, Repr

/-- Known contents of pattern memory: halfwords by address, addresses strictly rising. An address that is not listed
holds an unknown halfword (R160, R166), so no listed cell repeats what an unlisted address reads as. The cell is the
halfword, the manual's smallest addressable unit (R159; log entry 2). -/
abbrev Memory := List (Nat × HW)

/-- The canonical form of a memory: addresses strictly rising. -/
def Memory.wf : Memory → Bool
  | [] => true
  | [_] => true
  | (a, _) :: (b, v) :: rest => decide (a < b) && Memory.wf ((b, v) :: rest)

/-- The external DRAM. `epoch` says which power-on's unknown contents the unlisted addresses hold; `decayed` that a
refresh has been missed since that power-on (R166). -/
structure Dram where
  cells : Memory
  epoch : Nat
  decayed : Bool
  deriving DecidableEq, Repr

/-! ## Register window and window engine (10_the_register_window.md) -/

/-- Status and refusal codes, in the order of Table 12-5. -/
inductive Status where
  | ok | wrongState | badArg | segInUse | configLocked | wbufPending | memopBusy | outOfZone | zoneLocked
  | memNotReady | illegalCmd | badLog | noReg
  deriving DecidableEq, Repr

/-- WINERR (R177). -/
structure WinErr where
  code : Status
  offset : BitVec 7
  deriving DecidableEq, Repr

/-- The memory-operation engine (R186, R187). `held` is what a COPY's read grant has read and its write grant has not
yet written. -/
inductive MemOp where
  | idle
  | fill (dst len : Nat) (value : HW)
  | copy (src dst len : Nat) (held : Option (List HW))
  deriving DecidableEq, Repr

/-- MOPSTAT.LAST, in the order of Table 12-2. -/
inductive MopLast where
  | none | done | cancelled | abandoned
  deriving DecidableEq, Repr

/-- A read fetch, requested or granted (R182). -/
structure FetchReq where
  addr : Nat
  n : Nat
  deriving DecidableEq, Repr

/-- The write grant of a COPY burst that a SOFT_RESET left to end (R191). -/
structure OrphanWrite where
  dst : Nat
  data : List HW
  counted : Bool
  deriving DecidableEq, Repr

/-- The stretched access, READY held low (Table 10-1). -/
inductive Access where
  | wdataRead
  | wdataWrite (value : HW)
  | patch
  | cancel
  deriving DecidableEq, Repr

/-- The register window. `busData` is the halfword the last WDATA or pair-low read answered on the data pins. -/
structure Window where
  cmd : HW
  cmdstat : Status
  cmdres : HW
  carg : Vector HW 6
  winerr : WinErr
  captures : Vector Word 14
  holdings : Vector HW 14
  waddr : Addr
  stride : Bool
  ahead : List HW
  fetch : Option FetchReq
  posted : List PostedWrite
  memop : MemOp
  mopLast : MopLast
  mopCount : Word
  patch : Option PatchReq
  orphan : Option OrphanWrite
  access : Option Access
  busData : HW
  deriving DecidableEq, Repr

/-! ## Event unit (11_events_and_the_interrupt_line.md) -/

/-- The event unit. -/
structure Events where
  flags : BitVec 14
  enables : BitVec 14
  master : Bool
  deriving DecidableEq, Repr

/-! ## The whole part -/

/-- The state of the SQ64. `resetLow` is the RESET_N pin held low; `free` is the model's fresh-value counter (log entry
3); `pending` is the queue of commands waiting, first in, first out. -/
structure State where
  ports : Ports
  tsets : TimingSets
  seg : SegTable
  walker : Walker
  queue : List Item
  app : Applier
  run : RunControl
  log : Log
  trig : Trigger
  mem : MemCtl
  dram : Dram
  win : Window
  ev : Events
  resetLow : Bool
  free : Nat
  pending : List Instr
  deriving DecidableEq, Repr

/-- No step of this block stops with a fault: the faults of a run are states (R122 to R124), and what the manual leaves
open is a free value or an operand. So the type has no constructor. -/
inductive Fault where
  deriving DecidableEq, Repr

/-- Reasons a command is refused by the model (not the part's own refusals, which are states). -/
inductive Refusal where
  /-- A row that has no meaning yet, by its mnemonic. Raised only by an arm of `exec`; safe. No arm uses it. -/
  | notModelled (mnemonic : String)
  deriving DecidableEq, Repr

/-- What a step of this machine answers. -/
abbrev Result := Host.Outcome State Fault Refusal

/-! ## Values after power-on reset -/

/-- R1, R16: standby, width 1, EQ, HIZ; every pin RECEIVE with drive level 0. -/
def Ports.por : Ports :=
  { cfg := Vector.replicate 4 ⟨false, .w1, .eq, .hiz⟩, pins := Vector.replicate 4 ⟨0, 0⟩ }

/-- R23: TSETSEL 0, every value 0. -/
def TimingSets.por : TimingSets := { sel := 0, sets := Vector.replicate 8 ⟨0, 0, 0⟩ }

/-- Table 3-5: entries, staging and STARTSEG 0, LASTREL 127. -/
def SegTable.por : SegTable :=
  { entries := Vector.replicate 64 (Vector.replicate 12 0), stage := Vector.replicate 12 0, lastrel := 127,
    startseg := 0 }

/-- R80 and Table 5-4: HELD, nothing in progress, counters cleared. -/
def Applier.por : Applier :=
  { stream := .held, period := none, skipOnce := false, wait := none, passdone := PassDone.cleared, vcount := 0,
    failcount := 0, firstfail := FirstFail.cleared }

/-- R127 and Table 6-5: IDLE, no request, settings at their reset values. -/
def RunControl.por : RunControl :=
  { state := .idle, cause := .none, suspended := none, fault := FaultRecord.cleared,
    bp := Vector.replicate 2 ⟨false, false, false, false, 0, 0, 0⟩, armcfg := 0, starveto := 0, failPause := false,
    faillimit := 0, stopReq := false, pauseFail := false, pauseHost := false, pauseStep := false, stepReq := false,
    starve := none, drainAborted := false }

/-- R137, R149: empty, counters 0, ring at 0 with 64 halfwords, no level. -/
def Log.por : Log :=
  { fifo := [], seqno := 0, dropcount := 0, base := 0, size := 64, level := 0, wp := 0, rp := 0, endProduced := false }

/-- R150, R158: all lines INPUT with EDGE = RISE, latches clear. -/
def Trigger.por : Trigger := { lines := Vector.replicate 4 ⟨.input, .rise⟩, latch := 0, active := 0 }

/-- R172: INIT, zones disabled, REFINT 1560, nothing owed, no grant. -/
def MemCtl.por (msize : BitVec 2) : MemCtl :=
  { ready := false, msize := msize, initTicks := 0, zones := Vector.replicate 8 ⟨0, 0, .vector, false, false⟩,
    zonesel := 0, refint := 1560, refTimer := 0, owed := 0, refmiss := false, passover := 0, grant := none }

/-- R190: the window's registers after POR. -/
def Window.por : Window :=
  { cmd := 0, cmdstat := .ok, cmdres := 0, carg := Vector.replicate 6 0, winerr := ⟨.ok, 0⟩,
    captures := Vector.replicate 14 0, holdings := Vector.replicate 14 0, waddr := 0, stride := true, ahead := [],
    fetch := none, posted := [], memop := .idle, mopLast := .none, mopCount := 0, patch := none, orphan := none,
    access := none, busData := 0 }

/-- R196: flags and enables clear, MASTER clear. -/
def Events.por : Events := { flags := 0, enables := 0, master := false }

/-- The part right after a power-on reset that sampled `msize`, with the DRAM contents of the power-on `epoch`. -/
def State.porWith (msize : BitVec 2) (epoch : Nat) : State :=
  { ports := Ports.por, tsets := TimingSets.por, seg := SegTable.por, walker := Walker.stoppedState, queue := [],
    app := Applier.por, run := RunControl.por, log := Log.por, trig := Trigger.por, mem := MemCtl.por msize,
    dram := { cells := [], epoch := epoch, decayed := false }, win := Window.por, ev := Events.por, resetLow := false,
    free := epoch + 1, pending := [] }

/-- The machine right after power-on reset. The level of the MSIZE pins is the board's; this state takes 0 (log entry 1,
DESIGN CHOICE). -/
def State.reset : State := State.porWith 0 0

end Sys2Proof.Machine
end

