-- ==== Sys2Proof/Machine/Operands.lean ====
section
/-! DEFINITION. How the part reads the formats software sees (12_layouts.md): fields of a segment entry, of a vector
record and of written register values, and the codes of its enumerations. -/

namespace Sys2Proof.Machine

/-- A 4-element vector by its index. -/
def vec4 {α : Type} (f : Fin 4 → α) : Vector α 4 := #v[f 0, f 1, f 2, f 3]

/-- The four ports, A to D, and the four trigger lines. -/
def all4 : List (Fin 4) := [0, 1, 2, 3]

/-- The eight timing sets, and the eight zones. -/
def all8 : List (Fin 8) := [0, 1, 2, 3, 4, 5, 6, 7]

/-! ## Codes (Tables 12-2 to 12-7) -/

/-- WIDTH in pins (Table 1-1). -/
def Width.pins : Width → Nat
  | .w1 => 1 | .w4 => 4 | .w8 => 8 | .w16 => 16

/-- WIDTH by its encoding (Table 12-2). -/
def Width.ofCode (c : BitVec 2) : Width :=
  if c = 0 then .w1 else if c = 1 then .w4 else if c = 2 then .w8 else .w16

/-- The encoding of WIDTH. -/
def Width.code : Width → Nat
  | .w1 => 0 | .w4 => 1 | .w8 => 2 | .w16 => 3

/-- KIND by its encoding; 5 to 7 name no value (Table 12-2). -/
def CompareKind.ofCode (c : BitVec 3) : Option CompareKind :=
  if c = 0 then some .eq else if c = 1 then some .ule else if c = 2 then some .uge
  else if c = 3 then some .sle else if c = 4 then some .sge else none

/-- The encoding of KIND. -/
def CompareKind.code : CompareKind → Nat
  | .eq => 0 | .ule => 1 | .uge => 2 | .sle => 3 | .sge => 4

/-- A magnitude kind (1.4). -/
def CompareKind.isMagnitude (k : CompareKind) : Bool := k != .eq

/-- PARK by its encoding (Table 12-2). -/
def Park.ofCode (c : BitVec 2) : Park :=
  if c = 0 then .hiz else if c = 1 then .low else if c = 2 then .high else .hold

/-- The encoding of PARK. -/
def Park.code : Park → Nat
  | .hiz => 0 | .low => 1 | .high => 2 | .hold => 3

/-- MODE by its encoding (Table 12-2). -/
def TrgMode.ofCode (c : BitVec 2) : TrgMode :=
  if c = 0 then .input else if c = 1 then .outMark else if c = 2 then .outRun else .outFail

/-- The encoding of MODE. -/
def TrgMode.code : TrgMode → Nat
  | .input => 0 | .outMark => 1 | .outRun => 2 | .outFail => 3

/-- EDGE by its encoding; 3 names no value (Table 12-2). -/
def TrgEdge.ofCode (c : BitVec 2) : Option TrgEdge :=
  if c = 0 then some .rise else if c = 1 then some .fall else if c = 2 then some .both else none

/-- The encoding of EDGE. -/
def TrgEdge.code : TrgEdge → Nat
  | .rise => 0 | .fall => 1 | .both => 2

/-- KIND of a zone by its encoding; 3 names no value (Table 12-2). -/
def ZoneKind.ofCode (c : BitVec 2) : Option ZoneKind :=
  if c = 0 then some .vector else if c = 1 then some .log else if c = 2 then some .data else none

/-- The encoding of a zone's KIND. -/
def ZoneKind.code : ZoneKind → Nat
  | .vector => 0 | .log => 1 | .data => 2

/-- SEQSTATE.STATE (Table 12-4). -/
def SeqState.code : SeqState → Nat
  | .idle => 0 | .armed => 1 | .running => 2 | .waiting => 3 | .paused => 4 | .stopping => 5 | .ended => 6
  | .faulted => 7

/-- SEQSTATE.CAUSE and the end cause of an END record (Table 12-4). -/
def Cause.code : Cause → Nat
  | .none => 0 | .trigger => 1 | .levels => 2 | .notReady => 3 | .host => 4 | .step => 5 | .break0 => 6
  | .break1 => 7 | .fail => 8 | .complete => 9 | .failLimit => 10 | .abort => 11 | .fault => 12

/-- SEQSTATE.WALKER (Table 12-4). -/
def WalkerState.code : WalkerState → Nat
  | .stopped => 0 | .walking => 1 | .stallFull => 2 | .stallReady => 3 | .stallWait => 4 | .done => 5

/-- CMDSTAT and WINERR.CODE (Table 12-5). -/
def Status.code : Status → Nat
  | .ok => 0 | .wrongState => 1 | .badArg => 2 | .segInUse => 3 | .configLocked => 4 | .wbufPending => 5
  | .memopBusy => 6 | .outOfZone => 7 | .zoneLocked => 8 | .memNotReady => 9 | .illegalCmd => 10 | .badLog => 11
  | .noReg => 12

/-- FAULTCODE and the END record's fault code (Table 12-7). -/
def FaultCode.code : FaultCode → Nat
  | .none => 0 | .underrun => 1 | .badSegment => 2 | .badVector => 3 | .mixedLane => 4 | .fetchZone => 5
  | .loopOverflow => 6 | .loopUnderflow => 7 | .loopUnclosed => 8 | .waitTimeout => 9 | .starveTimeout => 10
  | .portStandby => 11

/-- KIND of a log record (Table 12-10). -/
def RecordKind.code : RecordKind → Nat
  | .fail => 0 | .capture => 1 | .timeout => 2 | .endRun => 3

/-- MOPSTAT.LAST (Table 12-2). -/
def MopLast.code : MopLast → Nat
  | .none => 0 | .done => 1 | .cancelled => 2 | .abandoned => 3

/-- MOPSTAT.MSTATE (Table 12-2). -/
def MemOp.code : MemOp → Nat
  | .idle => 0 | .fill .. => 1 | .copy .. => 2

/-- MEMSTAT.GRANT (Table 12-2). -/
def grantCode : Option Grant → Nat
  | none => 0 | some .refresh => 1 | some (.walker _) => 2 | some .writer => 3 | some (.window _) => 4

/-! ## Pairs (10.2, Table 12-1) -/

/-- A pair's place among the read captures and write holdings. -/
def pairIndex : Pair → Fin 14
  | .vcount => 0 | .failcount => 1 | .dropcount => 2 | .logseq => 3 | .ffvnum => 4 | .logbase => 5 | .logsize => 6
  | .loglevel => 7 | .logwp => 8 | .logrp => 9 | .zbase => 10 | .zlimit => 11 | .waddr => 12 | .mopcount => 13

/-- The offset of a pair's low halfword (Table 12-1); the high halfword is at the next offset. -/
def pairOffset : Pair → BitVec 7
  | .vcount => 0x20 | .failcount => 0x22 | .dropcount => 0x70 | .logseq => 0x6E | .ffvnum => 0x28 | .logbase => 0x64
  | .logsize => 0x66 | .loglevel => 0x68 | .logwp => 0x6A | .logrp => 0x6C | .zbase => 0x75 | .zlimit => 0x77
  | .waddr => 0x10 | .mopcount => 0x15

/-- The pairs that are read-only (Table 12-1). -/
def pairReadOnly : Pair → Bool
  | .vcount | .failcount | .dropcount | .logseq | .ffvnum | .logwp | .mopcount => true
  | .logbase | .logsize | .loglevel | .logrp | .zbase | .zlimit | .waddr => false

/-! ## Written register values -/

/-- PORTCFG: reserved bits or a KIND code without a value, or a magnitude kind at width 1, is no record (R4). -/
def parsePortCfg (v : HW) : Option PortCfg :=
  match CompareKind.ofCode (v.extractLsb' 3 3) with
  | none => none
  | some kind =>
    let width := Width.ofCode (v.extractLsb' 1 2)
    if v &&& 0xFF00#16 ≠ 0 then none
    else if kind.isMagnitude && width == .w1 then none
    else some { enabled := v.getLsbD 0, width := width, kind := kind, park := Park.ofCode (v.extractLsb' 6 2) }

/-- One line's field of TRGCFG (Table 12-2). -/
def parseTrgLine (v : HW) (j : Line) : Option TrgLine :=
  match TrgEdge.ofCode (v.extractLsb' (4 * j.val + 2) 2) with
  | none => none
  | some e => some { mode := TrgMode.ofCode (v.extractLsb' (4 * j.val) 2), edge := e }

/-- TRGCFG as a whole: an EDGE encoding without a value on any line is refused (R151). -/
def parseTrgCfg (v : HW) : Option (Vector TrgLine 4) :=
  match parseTrgLine v 0, parseTrgLine v 1, parseTrgLine v 2, parseTrgLine v 3 with
  | some a, some b, some c, some d => some #v[a, b, c, d]
  | _, _, _, _ => none

/-! ## Segment entries (Table 12-8) -/

/-- BASE, 25 bits. -/
def segBase (e : SegImage) : Nat := (e[1].extractLsb' 0 9 ++ e[0]).toNat

/-- COUNT. -/
def segCount (e : SegImage) : Nat := e[2].toNat

/-- REPEAT, 13 bits. -/
def segRepeat (e : SegImage) : Nat := (e[3].extractLsb' 0 13).toNat

/-- NEXT, 7 bits. -/
def segNext (e : SegImage) : BitVec 7 := e[4].extractLsb' 0 7

/-- ALT, 7 bits. -/
def segAlt (e : SegImage) : BitVec 7 := e[4].extractLsb' 8 7

/-- LOOPCOUNT. -/
def segLoopCount (e : SegImage) : HW := e[5]

/-- READY. -/
def segReady (e : SegImage) : Bool := e[6].getLsbD 0

/-- KEEP. -/
def segKeep (e : SegImage) : Bool := e[6].getLsbD 1

/-- LOOP_OPEN. -/
def segLoopOpen (e : SegImage) : Bool := e[6].getLsbD 2

/-- LOOP_CLOSE. -/
def segLoopClose (e : SegImage) : Bool := e[6].getLsbD 3

/-- WAIT: 0 NONE, 1 TRIGGER, 2 MATCH; 3 names no value. -/
def segWaitCode (e : SegImage) : BitVec 2 := e[6].extractLsb' 4 2

/-- TOACT: 0 FAULT, 1 SKIP; 2 and 3 name no value. -/
def segToact (e : SegImage) : BitVec 2 := e[6].extractLsb' 6 2

/-- TRGLINE. -/
def segTrgLine (e : SegImage) : Line := (e[6].extractLsb' 8 2).toFin

/-- MPORT. -/
def segMport (e : SegImage) : Port := (e[6].extractLsb' 10 2).toFin

/-- WTSET. -/
def segWtset (e : SegImage) : Fin 8 := (e[6].extractLsb' 12 3).toFin

/-- MEXP. -/
def segMexp (e : SegImage) : HW := e[7]

/-- MCARE. -/
def segMcare (e : SegImage) : HW := e[8]

/-- WTIMEOUT, 20 bits. -/
def segWtimeout (e : SegImage) : BitVec 20 := e[10].extractLsb' 0 4 ++ e[9]

/-- MODOP: 0 NONE, 1 INC, 2 DEC, 3 SHL, 4 SHR, 5 ROL, 6 ROR, 7 INV. -/
def segModop (e : SegImage) : BitVec 3 := e[11].extractLsb' 0 3

/-- MODTGT: 0 DRIVE, 1 EXPECT, 2 BOTH; 3 names no value. -/
def segModtgt (e : SegImage) : BitVec 2 := e[11].extractLsb' 3 2

/-- MODPORTS, bit p for port p. -/
def segModports (e : SegImage) : BitVec 4 := e[11].extractLsb' 5 4

/-- A reserved bit of the entry is 1 (Table 12-8). -/
def segReserved (e : SegImage) : Bool :=
  e[1] &&& 0xFE00#16 != 0 || e[3] &&& 0xE000#16 != 0 || e[4] &&& 0x8080#16 != 0 || e[6] &&& 0x8000#16 != 0 ||
    e[10] &&& 0xFFF0#16 != 0 || e[11] &&& 0xFE00#16 != 0

/-- The entry with its READY flag set or cleared, every other bit kept (R43, R44). -/
def segSetReady (e : SegImage) (b : Bool) : SegImage :=
  e.set 6 (if b then e[6] ||| 0x0001#16 else e[6] &&& 0xFFFE#16)

/-- Where NEXT or ALT leads: an entry, END (127), or a value 64 to 126 that names nothing (R35). -/
inductive Link where
  | entry (i : SegIdx)
  | endChain
  | invalid
  deriving DecidableEq, Repr

/-- The meaning of a 7-bit NEXT, ALT, STARTSEG or CARG0 index. -/
def linkOf (n : BitVec 7) : Link :=
  if h : n.toNat < 64 then .entry ⟨n.toNat, h⟩ else if n = 127 then .endChain else .invalid

/-- An entry index as a 7-bit tag. -/
def idxTag (i : SegIdx) : BitVec 7 := BitVec.ofNat 7 i.val

/-- A timing set is valid: PER at least 4, DRV and STB less than PER (R25). -/
def TimingSet.valid (t : TimingSet) : Bool :=
  decide (4 ≤ t.per.toNat) && decide (t.drv.toNat < t.per.toNat) && decide (t.stb.toNat < t.per.toNat)

/-! ## Vector records (Table 12-9) -/

/-- TSET of a record header. -/
def hdrTset (h : HW) : Fin 8 := (h.extractLsb' 0 3).toFin

/-- PRESENT of a record header, bit p for port p. -/
def hdrPresent (h : HW) : BitVec 4 := h.extractLsb' 3 4

/-- MARK of a record header. -/
def hdrMark (h : HW) : Bool := h.getLsbD 7

/-- CAPTURE of a record header. -/
def hdrCapture (h : HW) : Bool := h.getLsbD 8

/-- A reserved bit of a record header is 1. -/
def hdrReserved (h : HW) : Bool := h &&& 0xFE00#16 != 0

/-- How many of the ports below `p` are in the set. -/
def portRank (m : BitVec 4) (p : Nat) : Nat := ((List.range p).filter fun k => m.getLsbD k).length

/-- A record's length: 1 + 3n halfwords with n ports present (R18). -/
def recordLength (h : HW) : Nat := 1 + 3 * portRank (hdrPresent h) 4

/-- The port parts of a record from the halfwords after its header, in the order A to D, each DIR, DATA, CARE (R18). -/
def recordParts (h : HW) (body : List HW) : Vector (Option PortPart) 4 :=
  vec4 fun p =>
    if (hdrPresent h).getLsbD p.val then
      let r := 3 * portRank (hdrPresent h) p.val
      some { dir := body.getD r 0, data := body.getD (r + 1) 0, care := body.getD (r + 2) 0 }
    else none

/-! ## Log records (Tables 12-10, 12-11) -/

/-- The low and high halfwords of a 32-bit value. -/
def lowHalf (w : Word) : HW := w.extractLsb' 0 16
/-- The high halfword of a 32-bit value. -/
def highHalf (w : Word) : HW := w.extractLsb' 16 16

/-- The halfwords of a record as the writer writes them; reserved bits 0. -/
def LogRecord.halfwords (r : LogRecord) : List HW :=
  [BitVec.ofNat 16 (r.kind.code + 4 * r.length + 128 * r.mask.toNat),
   lowHalf r.seq, highHalf r.seq,
   BitVec.ofNat 16 (r.tags.seg.toNat + 256 * r.tset.val),
   r.tags.off, BitVec.ofNat 16 r.tags.iter.toNat, r.tags.pass,
   lowHalf r.vnum, highHalf r.vnum] ++ r.body

end Sys2Proof.Machine
end

