-- ==== Sys2Proof/Machine/Flags.lean ====
section
/-! DEFINITION. Event flags, the interrupt line and the reporting of refusals (11_events_and_the_interrupt_line.md;
R177, R180). -/

namespace Sys2Proof.Machine

/-- The fourteen event flags, in the order of Table 12-3. -/
inductive EvFlag where
  | runEnd | runFault | paused | waiting | firstFail | logLevel | logDrop | segReleased | earlyTrigger | trgEdge
  | memopDone | windowError | memReady | refreshMissed
  deriving DecidableEq, Repr

/-- A flag's position in EVFLAG and EVENABLE (Table 12-3). -/
def EvFlag.bit : EvFlag → Nat
  | .runEnd => 0 | .runFault => 1 | .paused => 2 | .waiting => 3 | .firstFail => 4 | .logLevel => 5 | .logDrop => 6
  | .segReleased => 7 | .earlyTrigger => 8 | .trgEdge => 9 | .memopDone => 10 | .windowError => 11 | .memReady => 12
  | .refreshMissed => 13

/-- A flag is set. -/
def flagSet (s : State) (f : EvFlag) : Bool := s.ev.flags.getLsbD f.bit

/-- A cause is taken: its flag becomes set (R192), but every flag is held clear while RESET_N is low (R196). -/
def raise (f : EvFlag) (s : State) : State :=
  if s.resetLow then s else { s with ev.flags := s.ev.flags ||| BitVec.ofNat 14 (2 ^ f.bit) }

/-- `raise` under a condition. -/
def raiseIf (b : Bool) (f : EvFlag) (s : State) : State := if b then raise f s else s

/-- IRQ_N is asserted: MASTER set and a flag both set and enabled; not driven while RESET_N is low (R194). -/
def irqAsserted (s : State) : Bool := !s.resetLow && s.ev.master && s.ev.flags &&& s.ev.enables != 0

/-- A refused register or data-port access: WINERR and WINDOW_ERROR, nothing else (R177). -/
def refuseAccess (code : Status) (offset : BitVec 7) (s : State) : State :=
  raise .windowError { s with win.winerr := ⟨code, offset⟩ }

/-- A refused command: CMDSTAT and WINDOW_ERROR, nothing else (R180). -/
def refuseCmd (code : Status) (s : State) : State := raise .windowError { s with win.cmdstat := code }

/-- An accepted command that leaves CMDRES unchanged (Table 10-2). -/
def acceptCmd (s : State) : State := { s with win.cmdstat := .ok }

/-- An accepted command that sets CMDRES (Table 10-2). -/
def acceptCmdWith (result : HW) (s : State) : State := { s with win.cmdstat := .ok, win.cmdres := result }

/-- The decoder takes a command: CMD reads its code, accepted or refused (R180). -/
def takeCmd (code : HW) (s : State) : State := { s with win.cmd := code }

/-- Run `f` if there is no refusal, else report the refusal of a command. -/
def cmdUnless (refusal : Option Status) (f : State → State) (s : State) : State :=
  match refusal with
  | some code => refuseCmd code s
  | none => f s

/-- Run `f` if there is no refusal, else report the refusal of an access at `offset`. -/
def accessUnless (refusal : Option Status) (offset : BitVec 7) (f : State → State) (s : State) : State :=
  match refusal with
  | some code => refuseAccess code offset s
  | none => f s

/-- The first refusal of an ordered list of checks: each gives its code when it fails. -/
def firstRefusal : List (Bool × Status) → Option Status
  | [] => none
  | (fails, code) :: rest => if fails then some code else firstRefusal rest

/-- A run is active: the sequencer is in ARMED, RUNNING, WAITING, PAUSED or STOPPING (R100). -/
def runActive (s : State) : Bool :=
  match s.run.state with
  | .armed | .running | .waiting | .paused | .stopping => true
  | .idle | .ended | .faulted => false

/-- A 32-bit counter that saturates at 0xFFFFFFFF, raised by `n` (R91, R132). -/
def satAdd (c : Word) (n : Nat) : Word :=
  if c.toNat + n < 2 ^ 32 then c + BitVec.ofNat 32 n else 0xFFFFFFFF#32

end Sys2Proof.Machine
end

