-- ==== Sys2Proof/Machine/Ops.lean ====
section
/-! DEFINITION. The shared operations: pattern memory and its free values, zones, the requests before the arbiter and
its decision, and the two ways a row is taken (a host access, an event of the part). -/

namespace Sys2Proof.Machine

/-! ## Pattern memory (R159, R160, R166) -/

/-- The known halfword at an address, if there is one. -/
def Memory.read? : Memory → Nat → Option HW
  | [], _ => none
  | (b, v) :: rest, a => if a = b then some v else Memory.read? rest a

/-- Store a halfword, keeping the addresses strictly rising. -/
def Memory.write : Memory → Nat → HW → Memory
  | [], a, v => [(a, v)]
  | (b, w) :: rest, a, v =>
    if a < b then (a, v) :: (b, w) :: rest
    else if a = b then (a, v) :: rest
    else (b, w) :: Memory.write rest a v

/-- Store halfwords at consecutive addresses, in address order. -/
def Memory.writeList : Memory → Nat → List HW → Memory
  | m, _, [] => m
  | m, a, v :: vs => Memory.writeList (m.write a v) (a + 1) vs

/-- Read one halfword. An unlisted address holds the unknown contents of its power-on (R160), or, after a missed
refresh, a fresh value at every read (R166). -/
def readHalf (a : Nat) (s : State) : HW × State :=
  match s.dram.cells.read? a with
  | some v => (v, s)
  | none =>
    if s.dram.decayed then (Config.decayedHalfword s.free, { s with free := s.free + 1 })
    else (Config.powerOnHalfword s.dram.epoch a, s)

/-- Read `n` halfwords at consecutive addresses, in address order. -/
def readHalves : Nat → Nat → State → List HW × State
  | 0, _, s => ([], s)
  | n + 1, a, s =>
    let (v, s) := readHalf a s
    let (vs, s) := readHalves n (a + 1) s
    (v :: vs, s)

/-- Write halfwords at consecutive addresses. -/
def writeHalves (a : Nat) (vs : List HW) (s : State) : State :=
  { s with dram.cells := s.dram.cells.writeList a vs }

/-- Carry out posted writes in order (R185). -/
def writePosted (ws : List PostedWrite) (s : State) : State :=
  { s with dram.cells := ws.foldl (fun m w => m.write w.addr.toNat w.value) s.dram.cells }

/-- The attached DRAM's size in halfwords (Table 9-1). -/
def dramSize (s : State) : Nat := 2 ^ 22 * 2 ^ s.mem.msize.toNat

/-! ## Zones (R161 to R164) -/

/-- A zone contains every address of the range of `n` halfwords at `a` (R164); `n` is at least 1. -/
def Zone.containsRange (z : Zone) (a n : Nat) : Bool :=
  z.enabled && decide (z.base.toNat ≤ a) && decide (a + n - 1 ≤ z.limit.toNat)

/-- The enabled zone that a range lies wholly inside, if there is one (R164). -/
def rangeZone (s : State) (a n : Nat) : Option Zone := s.mem.zones.toList.find? fun z => z.containsRange a n

/-- A range lies wholly inside one enabled zone of a kind. -/
def rangeInKind (s : State) (k : ZoneKind) (a n : Nat) : Bool :=
  match rangeZone s a n with
  | some z => z.kind == k
  | none => false

/-- The zone WADDR lies in. -/
def waddrZone (s : State) : Option Zone := rangeZone s s.win.waddr.toNat 1

/-- A range lies in no enabled zone: OUT_OF_ZONE (R182, R184, R187, R188). -/
def outOfZone (s : State) (a n : Nat) : Bool := (rangeZone s a n).isNone

/-- A run is active and the range's zone has W_RUN clear: ZONE_LOCKED for a host write (R163). -/
def zoneLocked (s : State) (a n : Nat) : Bool :=
  runActive s && (match rangeZone s a n with | some z => !z.wrun | none => false)

/-! ## The ring (R138) -/

/-- Ring occupancy: (LOGWP − LOGRP) mod LOGSIZE. -/
def occupancy (s : State) : Nat := (s.log.wp.toNat + s.log.size.toNat - s.log.rp.toNat) % s.log.size.toNat

/-- Ring room: LOGSIZE − 1 − occupancy. -/
def room (s : State) : Nat := s.log.size.toNat - 1 - occupancy s

/-- Log writer states (Table 7-3), in the order of Table 12-2. -/
inductive WriterState where
  | empty | noRoom | requesting | writing
  deriving DecidableEq, Repr

/-- The writer is in the grant. -/
def writerGranted (s : State) : Bool := s.mem.grant == some .writer

/-- The log writer's state, from the FIFO, the ring and the grant (R139). -/
def writerState (s : State) : WriterState :=
  match s.log.fifo with
  | [] => .empty
  | r :: _ => if writerGranted s then .writing else if r.length ≤ room s then .requesting else .noRoom

/-- The encoding of WSTATE (Table 12-2). -/
def WriterState.code : WriterState → Nat
  | .empty => 0 | .noRoom => 1 | .requesting => 2 | .writing => 3

/-! ## The prefetch queue's conditions (R73) -/

/-- The queue is hungry: 2 items or fewer. -/
def hungry (s : State) : Bool := decide (s.queue.length ≤ 2)

/-- The queue is primed: 8 items, or the walker is in a state other than WALKING. -/
def primed (s : State) : Bool := decide (8 ≤ s.queue.length) || s.walker.st != .walking

/-! ## The window engine's work (10.4 to 10.6) -/

/-- The length of the operation in flight. -/
def MemOp.len : MemOp → Nat
  | .idle => 0 | .fill _ len _ => len | .copy _ _ len _ => len

/-- A FILL or COPY is in flight (R186). -/
def memopBusy (s : State) : Bool := s.win.memop != .idle

/-- The work of the window engine for the DRAM, as the grant unit it would be granted; none when it holds no work
(R168). A COPY burst left by a SOFT_RESET goes first (R191; log entry 12). -/
def windowWork (s : State) : Option WinUnit :=
  match s.win.orphan with
  | some o => some (.copyWrite o.dst o.data (.orphan o.counted))
  | none =>
    match s.win.patch with
    | some p => some (.patch p)
    | none =>
      if s.win.posted ≠ [] then some (.drain (s.win.posted.take 8) true)
      else
        let done := s.win.mopCount.toNat
        match s.win.memop with
        | .fill dst len v => some (.fill (dst + done) (min 8 (len - done)) v .live)
        | .copy src dst len none => some (.copyRead (src + done) (dst + done) (min 8 (len - done)) .live)
        | .copy _ dst _ (some data) => some (.copyWrite (dst + done) data .live)
        | .idle =>
          match s.win.fetch with
          | some f => some (.fetch f.addr f.n true)
          | none => none

/-! ## The arbiter (R168 to R170) -/

/-- The walker has a request: WALKING with a record fetch next, its header inside an enabled VECTOR zone (Table 9-4,
R63). -/
def walkerRequest (s : State) : Bool :=
  s.walker.st == .walking && s.walker.next == .fetch && rangeInKind s .vector s.walker.fetchAddr 1

/-- The log writer has a request (R139). -/
def writerRequest (s : State) : Bool := writerState s == .requesting

/-- The grant decision: the first of the eight ranks of R169 that applies, for the window work `w` and the passed-over
count `po`. -/
def decideGrant (s : State) (w : Option WinUnit) (po : Nat) : Option Grant :=
  if s.mem.owed = 8 then some .refresh
  else if w.isSome && po == 16 then w.map .window
  else if walkerRequest s && hungry s then some (.walker true)
  else if writerRequest s && decide (12 ≤ s.log.fifo.length) then some .writer
  else if walkerRequest s then some (.walker true)
  else if writerRequest s then some .writer
  else if w.isSome then w.map .window
  else if 1 ≤ s.mem.owed then some .refresh
  else none

/-- The passed-over count after a grant (R170). -/
def passoverAfter (w : Option WinUnit) (po : Nat) : Option Grant → Nat
  | some (.window _) => 0
  | some (.walker _) | some .writer => if w.isSome && decide (po < 16) then po + 1 else po
  | some .refresh | none => po

/-- The passed-over count before a decision: 0 when no window request stands (R170, withdrawal). -/
def passoverNow (s : State) (w : Option WinUnit) : Nat := if w.isSome then s.mem.passover else 0

/-- The arbiter at the end of a step: with the port free and the controller READY it makes its decision over the requests
that then stand (R169); in INIT it makes no grant (R160). -/
def arbitrate (s : State) : State :=
  let w := windowWork s
  let po := passoverNow s w
  if s.mem.grant.isSome || !s.mem.ready then { s with mem.passover := po }
  else
    let g := decideGrant s w po
    { s with mem.grant := g, mem.passover := passoverAfter w po g }

/-- A grant unit ends: the port is free (R168). -/
def freePort (s : State) : State := { s with mem.grant := none }

/-! ## How a row is taken -/

/-- The bus interface can take a host access: RESET_N is not low (R190) and no access is being stretched (R176). -/
def busFree (s : State) : Bool := !s.resetLow && s.win.access.isNone

/-- A host access is taken: its effect, then the arbiter. When the window takes no access, the row has no effect (log
entry 4). -/
def hostAccess (f : State → State) (s : State) : Result :=
  .next (if busFree s then arbitrate (f s) else s)

/-- An event of the part or of a pin occurs: its effect, then the arbiter. In a state in which the spec says the event
does not occur, the row has no effect (log entry 4). -/
def eventStep (occurs : Bool) (f : State → State) (s : State) : Result :=
  .next (if occurs then arbitrate (f s) else s)

/-- A command write: CMD takes the code, then the owner's verdict (R180). -/
def command (code : HW) (f : State → State) (s : State) : Result :=
  hostAccess (fun s => f (takeCmd code s)) s

/-- A register write under the refusal its checks give (R177). -/
def registerAccess (refusal : State → Option Status) (offset : BitVec 7) (f : State → State) (s : State) : Result :=
  hostAccess (fun s => accessUnless (refusal s) offset f s) s

/-- The value a completing write joins: the written high halfword and the pair's write holding (R179). -/
def joined (s : State) (p : Pair) (high : HW) : Word := high ++ s.win.holdings[pairIndex p]

end Sys2Proof.Machine
end

