-- ==== Sys2Proof/Machine/LogOps.lean ====
section
/-! DEFINITION. Production of log records, the drain and its end (07_the_result_log.md, R130 to R147). -/

namespace Sys2Proof.Machine

/-- A record is produced: it takes the next sequence number and joins the FIFO, or is dropped and counted when the FIFO
holds 16 (R130, R131, R132). -/
def produceRecord (r : LogRecord) (s : State) : State :=
  let r := { r with seq := s.log.seqno }
  let s := { s with log.seqno := s.log.seqno + 1 }
  if s.log.fifo.length < 16 then { s with log.fifo := s.log.fifo ++ [r] }
  else raise .logDrop { s with log.dropcount := satAdd s.log.dropcount 1 }

/-- The END record (R136), but for its sequence number. -/
def endRecord (s : State) : LogRecord :=
  let isFault := s.run.cause == .fault
  { kind := .endRun, mask := 0, seq := 0, tags := if isFault then s.run.fault.pos else ⟨127, 0, 0, 0⟩, tset := 0,
    vnum := s.app.vcount,
    body := [BitVec.ofNat 16 s.run.cause.code, BitVec.ofNat 16 (if isFault then s.run.fault.code.code else 0),
             lowHalf s.app.failcount, highHalf s.app.failcount, lowHalf s.log.dropcount, highHalf s.log.dropcount] }

/-- The END record of the drain is produced once the FIFO is empty (R146). A record being written is still in the FIFO
(R129), so an empty FIFO means that none is. -/
def produceEndWhenEmpty (s : State) : State :=
  if s.log.fifo = [] ∧ s.log.endProduced = false then
    produceRecord (endRecord s) { s with log.endProduced := true }
  else s

/-- The drain begins at entry to STOPPING (R146). -/
def beginDrain (s : State) : State := produceEndWhenEmpty { s with log.endProduced := false }

/-- The drain is complete: the sequencer leaves STOPPING for FAULTED or ENDED (R124). -/
def drainComplete (s : State) : State :=
  if s.run.cause = .fault then raise .runFault { s with run.state := .faulted }
  else raise .runEnd { s with run.state := .ended }

/-- What an ABORT in STOPPING does to the result log the first time (R147): the records not being written are discarded
and counted, DRAIN_ABORTED is set, and with no record being written the drain completes at once. -/
def shortenDrain (s : State) : State :=
  let kept := if writerGranted s then s.log.fifo.take 1 else []
  let n := s.log.fifo.length - kept.length
  let s := raiseIf (1 ≤ n) .logDrop
    { s with log.fifo := kept, log.dropcount := satAdd s.log.dropcount n, run.drainAborted := true }
  if kept = [] then drainComplete s else s

/-- The addresses of the ring: halfword i of a record is at LOGBASE + ((LOGWP + i) mod LOGSIZE) (R140). -/
def ringAddr (s : State) (i : Nat) : Nat := s.log.base.toNat + (s.log.wp.toNat + i) % s.log.size.toNat

/-- Write the halfwords of a record into the ring from its halfword `i` on (R140). -/
def writeRing (s : State) (m : Memory) (i : Nat) : List HW → Memory
  | [] => m
  | v :: vs => writeRing s (m.write (ringAddr s i) v) (i + 1) vs

/-- After a publication in STOPPING: the drain is complete at the END record's publication, or at any publication once
an ABORT has shortened the drain; else the END record is produced if the FIFO is empty (R146, R147). -/
def drainAfterPublication (r : LogRecord) (s : State) : State :=
  if s.run.state ≠ .stopping then s
  else if s.run.drainAborted || r.kind == .endRun then drainComplete s
  else produceEndWhenEmpty s

/-- The publication of the head record `r` (R140, R141). -/
def publish (r : LogRecord) (rest : List LogRecord) (s : State) : State :=
  let cells := writeRing s s.dram.cells 0 r.halfwords
  let wp := BitVec.ofNat 24 ((s.log.wp.toNat + r.length) % s.log.size.toNat)
  let s := { s with dram.cells := cells, log.wp := wp, log.fifo := rest }
  let s := raiseIf (s.log.level != 0 && decide (s.log.level.toNat ≤ occupancy s)) .logLevel s
  drainAfterPublication r s

end Sys2Proof.Machine
end

