-- ==== Sys2Proof/Machine/Lanes.lean ====
section
/-! DEFINITION. Lanes, the comparator and the segment modifier (01_pins_ports_and_lanes.md, R10 to R15;
02_vector_records_and_timing_sets.md, R29 to R31). -/

namespace Sys2Proof.Machine

/-! ## Lanes (R10) -/

/-- How many lanes a port of lane width `w` has. -/
def laneCount (w : Nat) : Nat := 16 / w

/-- The lane value of a halfword for lane `i`, unsigned: pins 15 − i·w down to 16 − (i+1)·w. -/
def laneValue (v : HW) (w i : Nat) : Nat := v.toNat / 2 ^ (16 - (i + 1) * w) % 2 ^ w

/-- A lane value read as a w-bit two's-complement number. -/
def laneSigned (w x : Nat) : Int := if 2 * x < 2 ^ w then (x : Int) else (x : Int) - (2 : Int) ^ w

/-- The halfword whose lane `i` has the value `f i`. -/
def ofLanes (w : Nat) (f : Nat → Nat) : HW :=
  BitVec.ofNat 16 (((List.range (laneCount w)).map fun i => f i % 2 ^ w * 2 ^ (16 - (i + 1) * w)).sum)

/-! ## The comparator (R11 to R14) -/

/-- The classes of a lane under a magnitude kind (Table 1-7). -/
inductive LaneClass where
  | compared | notCompared | mixed
  deriving DecidableEq, Repr

/-- The class of lane `i` under a magnitude kind (R13). -/
def laneClass (w : Nat) (part : PortPart) (i : Nat) : LaneClass :=
  let dir := laneValue part.dir w i
  let care := laneValue part.care w i
  if dir = 2 ^ w - 1 then .notCompared
  else if care = 0 then .notCompared
  else if dir = 0 ∧ care = 2 ^ w - 1 then .compared
  else .mixed

/-- The pins that EQ finds different: RECEIVE, cared for, observed unlike expected (R12). -/
def eqMismatch (part : PortPart) (observed : HW) : HW := ~~~part.dir &&& part.care &&& (observed ^^^ part.data)

/-- The relation a kind names between the observed and the expected lane value (R14, Table 1-8). -/
def laneHolds (kind : CompareKind) (w observed expected : Nat) : Bool :=
  match kind with
  | .eq => observed == expected
  | .ule => decide (observed ≤ expected)
  | .uge => decide (expected ≤ observed)
  | .sle => decide (laneSigned w observed ≤ laneSigned w expected)
  | .sge => decide (laneSigned w expected ≤ laneSigned w observed)

/-- Lane `i` fails (R12, R14): under EQ when a judged pin of it differs; under a magnitude kind when it is COMPARED and
the relation does not hold. -/
def laneFails (cfg : PortCfg) (part : PortPart) (observed : HW) (i : Nat) : Bool :=
  let w := cfg.width.pins
  if cfg.kind = .eq then laneValue (eqMismatch part observed) w i != 0
  else laneClass w part i == .compared &&
    !laneHolds cfg.kind w (laneValue observed w i) (laneValue part.data w i)

/-- The lane-result word: bit 15 − i is 1 when lane i fails, the bits below the lanes are 0 (R11). -/
def laneResult (cfg : PortCfg) (part : PortPart) (observed : HW) : HW :=
  BitVec.ofNat 16 (((List.range (laneCount cfg.width.pins)).map fun i =>
    if laneFails cfg part observed i then 2 ^ (15 - i) else 0).sum)

/-- A present port has a MIXED lane under its magnitude kind (R13, R27 check 4). -/
def hasMixedLane (cfg : PortCfg) (part : PortPart) : Bool :=
  cfg.kind.isMagnitude &&
    (List.range (laneCount cfg.width.pins)).any fun i => laneClass cfg.width.pins part i == .mixed

/-- The mismatch word of a MATCH sample (R114): judged pins whose level differs, pin by pin. -/
def matchMismatch (item : WaitItem) (observed : HW) : HW := item.mcare &&& (observed ^^^ item.mexp)

/-! ## The modifier (R29 to R31) -/

/-- One application of MODOP to a lane value (R30); `op` is the encoding of Table 12-8. -/
def laneModifyOnce (op : BitVec 3) (w v : Nat) : Nat :=
  if op = 1 then (v + 1) % 2 ^ w
  else if op = 2 then (v + (2 ^ w - 1)) % 2 ^ w
  else if op = 3 then v * 2 % 2 ^ w
  else if op = 4 then v / 2
  else if op = 5 then v * 2 % 2 ^ w + v / 2 ^ (w - 1)
  else if op = 6 then v / 2 + v % 2 * 2 ^ (w - 1)
  else if op = 7 then 2 ^ w - 1 - v
  else v

/-- The lane value after k applications (Table 2-6). -/
def laneModify (op : BitVec 3) (w v k : Nat) : Nat :=
  if op = 1 then (v + k) % 2 ^ w
  else if op = 2 then (v + (2 ^ w - k % 2 ^ w)) % 2 ^ w
  else if op = 3 then if w ≤ k then 0 else v * 2 ^ k % 2 ^ w
  else if op = 4 then if w ≤ k then 0 else v / 2 ^ k
  else if op = 5 then v * 2 ^ (k % w) % 2 ^ w + v / 2 ^ (w - k % w)
  else if op = 6 then v / 2 ^ (k % w) + v % 2 ^ (k % w) * 2 ^ (w - k % w)
  else if op = 7 then if k % 2 = 1 then 2 ^ w - 1 - v else v
  else v

/-- The target pins of MODTGT (Table 2-7): DRIVE, EXPECT, BOTH. -/
def modTargets (tgt : BitVec 2) (dir : HW) : HW :=
  if tgt = 0 then dir else if tgt = 1 then ~~~dir else 0xFFFF#16

/-- The DATA of a modified port: every lane computed whole, then written back at the target pins only (R30, R31). -/
def modifyData (op : BitVec 3) (tgt : BitVec 2) (w k : Nat) (part : PortPart) : HW :=
  let computed := ofLanes w fun i => laneModify op w (laneValue part.data w i) k
  let target := modTargets tgt part.dir
  computed &&& target ||| part.data &&& ~~~target

/-- The modifier of an entry on one present port in repeat iteration k (R29, Table 2-5). -/
def modifyPart (e : SegImage) (cfg : PortCfg) (p : Port) (k : Nat) (part : PortPart) : PortPart :=
  if (segModports e).getLsbD p.val && k != 0 && segModop e != 0 then
    { part with data := modifyData (segModop e) (segModtgt e) cfg.width.pins k part }
  else part

end Sys2Proof.Machine
end

