-- ==== Sys2Proof/Machine/PinOps.lean ====
section
/-! DEFINITION. Park application, drive edges and the trigger unit's output lines (01_pins_ports_and_lanes.md;
08_trigger_lines.md, R155 to R157). -/

namespace Sys2Proof.Machine

/-- Park application on the pins of an enabled port (R2, Table 1-2). -/
def parkPins (park : Park) (pins : PinState) : PinState :=
  match park with
  | .hiz => { pins with dir := 0 }
  | .low => ⟨0xFFFF#16, 0⟩
  | .high => ⟨0xFFFF#16, 0xFFFF#16⟩
  | .hold => pins

/-- Park application on one port: an enabled port takes its park state, a standby port keeps its pins (R2). -/
def parkPort (cfg : PortCfg) (pins : PinState) : PinState := if cfg.enabled then parkPins cfg.park pins else pins

/-- Park application on every enabled port (R2, R17). -/
def parkAll (s : State) : State :=
  { s with ports.pins := vec4 fun p => parkPort s.ports.cfg[p] s.ports.pins[p] }

/-- The pins of a port after a drive edge whose vector carries `part` for it (R7): directions from DIR, levels from DATA
where DRIVE, kept where RECEIVE; an absent port is left as it is. -/
def drivePort (part : Option PortPart) (pins : PinState) : PinState :=
  match part with
  | none => pins
  | some q => ⟨q.dir, q.data &&& q.dir ||| pins.level &&& ~~~q.dir⟩

/-- The bit mask of the trigger lines in a mode. -/
def linesIn (s : State) (m : TrgMode) : BitVec 4 :=
  BitVec.ofNat 4 ((all4.map fun j => if s.trig.lines[j].mode = m then 2 ^ j.val else 0).sum)

/-- An indication that makes every line of a mode active (R155 to R157). -/
def linesOn (m : TrgMode) (s : State) : State := { s with trig.active := s.trig.active ||| linesIn s m }

/-- Every line of a mode becomes inactive. -/
def linesOff (m : TrgMode) (s : State) : State := { s with trig.active := s.trig.active &&& ~~~linesIn s m }

/-- The period start indication: OUT_MARK and OUT_FAIL lines go inactive (R156, R157). -/
def periodStartIndication (s : State) : State := linesOff .outFail (linesOff .outMark s)

/-- Every output line goes inactive: entry to STOPPING, SOFT_RESET (Table 8-3). -/
def linesAllOff (s : State) : State := { s with trig.active := 0 }

end Sys2Proof.Machine
end

