-- ==== Sys2Proof/Machine/WalkerOps.lean ====
section
/-! DEFINITION. The walker's shared operations: the entry check, arrival, pushes, release and leaving
(03_the_segment_table.md; 04_the_walker_and_the_prefetch_queue.md). -/

namespace Sys2Proof.Machine

/-- An entry is named on the loop stack. -/
def onStack (i : SegIdx) (stack : List LoopElem) : Bool := stack.any fun e => e.entry == i

/-- An entry is in use: the walker's current entry, or named on the loop stack (R45). -/
def inUse (s : State) (i : SegIdx) : Bool :=
  (match s.walker.cur with | some c => c.idx == i | none => false) || onStack i s.walker.stack

/-- The loop pass tag that a stack gives: the current pass of its top, or 0 (R55). -/
def stackPass : List LoopElem → HW
  | [] => 0
  | e :: _ => e.pass

/-- The tags of an entry before its records: offset 0, iteration 0. -/
def entryTags (i : SegIdx) (pass : HW) : Tags := ⟨idxTag i, 0, 0, pass⟩

/-- The entry check: malformed if any condition of Table 3-2 holds (R39). -/
def malformed (s : State) (e : SegImage) : Bool :=
  segReserved e
  || segWaitCode e == 3 || segModtgt e == 3 || segToact e == 2 || segToact e == 3
  || segCount e == 0
  || segRepeat e == 0 || decide (4096 < segRepeat e)
  || linkOf (segNext e) == .invalid || linkOf (segAlt e) == .invalid
  || (segLoopOpen e && decide ((segLoopCount e).toNat < 2))
  || (segWaitCode e != 0 && !s.tsets.sets[segWtset e].valid)
  || (segWaitCode e == 1 && s.trig.lines[segTrgLine e].mode != .input)
  || (segWaitCode e == 2 && !s.ports.cfg[segMport e].enabled)

/-! ## Pushes (R70 to R72) -/

/-- An item joins the tail of the prefetch queue. -/
def pushItem (it : Item) (s : State) : State := { s with queue := s.queue ++ [it] }

/-- The queue test after a push that leaves the walker WALKING: STALL_FULL with 8 items (R72). -/
def queueTest (s : State) : State :=
  { s with walker.st := if 8 ≤ s.queue.length then .stallFull else .walking }

/-- The walker pushes a FAULT item and enters DONE, the current entry kept (R74). -/
def pushFault (code : FaultCode) (tags : Tags) (s : State) : State :=
  let s := pushItem (.fault code tags) s
  { s with walker.st := .done, walker.next := .none }

/-- The walker pushes the END item, its tags all 0, and enters DONE with no current entry (R69, R71). -/
def pushEnd (s : State) : State :=
  let s := pushItem (.endChain Tags.zero) s
  { s with walker.st := .done, walker.next := .none, walker.cur := none }

/-! ## Arrival (R57 to R60) -/

/-- A repeat iteration begins: the fetch address takes BASE (R62 step 1). -/
def startIteration (e : SegImage) (s : State) : State := { s with walker.fetchAddr := segBase e }

/-- After the entry check and any loop opening comes the WAIT item, if the entry waits; else iteration 0 of its records
begins (R61, R62). -/
def afterArrival (e : SegImage) (s : State) : State :=
  if segWaitCode e = 0 then startIteration e { s with walker.next := .fetch }
  else { s with walker.next := .pushWait }

/-- The walker takes entry `i`, whose READY flag is set: the copy and the tags, the entry check, the opening of a loop
unless the arrival is a loop-back (R57, R59, R60). -/
def takeEntry (i : SegIdx) (e : SegImage) (loopBack : Bool) (s : State) : State :=
  let pass := s.walker.tags.pass
  let s := { s with walker.st := .walking, walker.cur := some ⟨i, e⟩, walker.pend := none,
                    walker.tags := entryTags i pass }
  if malformed s e then pushFault .badSegment (entryTags i pass) s
  else if segLoopOpen e && !loopBack then
    if s.walker.stack.length < 4 then
      afterArrival e
        { s with walker.stack := ⟨i, segLoopCount e - 1, 0⟩ :: s.walker.stack, walker.tags := entryTags i 0 }
    else pushFault .loopOverflow (entryTags i (stackPass s.walker.stack)) s
  else afterArrival e s

/-- The walker arrives at entry `i`: it takes the entry if it is ready, else it stalls on it in STALL_READY with no
current entry (R57). -/
def walkerArrive (i : SegIdx) (loopBack : Bool) (s : State) : State :=
  let e := s.seg.entries[i]
  if segReady e then takeEntry i e loopBack s
  else { s with walker.st := .stallReady, walker.cur := none, walker.pend := some i,
                walker.next := .arrive i loopBack }

/-! ## Release and leaving (R46, R65 to R69, R76) -/

/-- Release of an entry: READY clear, LASTREL names it, SEG_RELEASED set (R46). -/
def release (i : SegIdx) (s : State) : State :=
  raise .segReleased
    { s with seg.entries := s.seg.entries.set i (segSetReady s.seg.entries[i] false), seg.lastrel := idxTag i }

/-- An entry that stops being in use by the walker's own movement is released when it is not named on the loop stack and
its KEEP flag is clear (R46). -/
def releaseIfFree (i : SegIdx) (s : State) : State :=
  if onStack i s.walker.stack || segKeep s.seg.entries[i] then s else release i s

/-- The walker gives up its current entry and goes on to arrive at entry `d`; the arrival is its next step (R56). -/
def goTo (d : SegIdx) (loopBack : Bool) (s : State) : State :=
  { s with walker.st := .walking, walker.cur := none, walker.next := .arrive d loopBack }

/-- A leaving that follows NEXT or ALT out of entry `i` (R65 steps 3 and 4): release, then END or the next arrival. A
value 64 to 126 cannot stand in an entry that passed its check; the leaving then does not take place (log entry 15). -/
def followLink (i : SegIdx) (dest : Link) (s : State) : State :=
  match dest with
  | .entry d => goTo d false (releaseIfFree i s)
  | .endChain => pushEnd (releaseIfFree i s)
  | .invalid => s

/-- A leaving with no loop to close (R65 steps 2 to 4, R68). -/
def leaveOpen (i : SegIdx) (dest : Link) (tags : Tags) (s : State) : State :=
  if dest = .endChain ∧ s.walker.stack ≠ [] then pushFault .loopUnclosed tags s else followLink i dest s

/-- A loop-back: the top element has passes remaining (R66). -/
def loopBackTo (i : SegIdx) (top : LoopElem) (rest : List LoopElem) (s : State) : State :=
  let top := { top with remaining := top.remaining - 1, pass := top.pass + 1 }
  let s := { s with walker.stack := top :: rest, walker.tags.pass := top.pass }
  goTo top.entry true (releaseIfFree i s)

/-- A pop, then the leaving through `dest` (R67, R47): the popped entry is released first, when it is not the current
entry, then the entry left. -/
def popAndLeave (i : SegIdx) (top : LoopElem) (rest : List LoopElem) (dest : Link) (s : State) : State :=
  let s := { s with walker.stack := rest, walker.tags.pass := stackPass rest }
  let s := if top.entry = i then s else releaseIfFree top.entry s
  followLink i dest s

/-- The leaving of an entry whose LOOP_CLOSE is honoured (R65 step 1, R68). -/
def leaveClosing (i : SegIdx) (dest : Link) (tags : Tags) (s : State) : State :=
  match s.walker.stack with
  | [] => pushFault .loopUnderflow tags s
  | top :: rest =>
    if top.remaining ≠ 0 then loopBackTo i top rest s
    else if dest = .endChain ∧ rest ≠ [] then pushFault .loopUnclosed tags s
    else if dest = .invalid then s
    else popAndLeave i top rest dest s

/-- The walker leaves its current entry after the last record (R65). -/
def leaveNormally (c : CurrentEntry) (s : State) : State :=
  let dest := linkOf (segNext c.img)
  if segLoopClose c.img then leaveClosing c.idx dest s.walker.tags s
  else leaveOpen c.idx dest s.walker.tags s

/-- The entry closes its own loop: both loop flags, and it is on top of the stack (R76). -/
def closesOwnLoop (c : CurrentEntry) (stack : List LoopElem) : Bool :=
  segLoopOpen c.img && segLoopClose c.img &&
    (match stack with | top :: _ => top.entry == c.idx | [] => false)

/-- The walker leaves its current entry through ALT without its records, after a SKIP wait that timed out (R76, R68). -/
def leaveThroughAlt (c : CurrentEntry) (s : State) : State :=
  let tags := entryTags c.idx s.walker.tags.pass
  let dest := linkOf (segAlt c.img)
  if closesOwnLoop c s.walker.stack then leaveClosing c.idx dest tags s else leaveOpen c.idx dest tags s

/-- The walker is told that its SKIP wait timed out: it leaves STALL_WAIT for WALKING, and the leaving through ALT is its
next step (R56, R76; log entry 7). -/
def skipTimedOut (s : State) : State :=
  if s.walker.st = .stallWait then { s with walker.st := .walking, walker.next := .leaveAlt } else s

/-! ## Start and stop (R77 to R79) -/

/-- The walk begins: the queue and the stack are emptied, tags and fetch address take 0, and the walker is WALKING with
the arrival at STARTSEG as its next step (R77). -/
def walkerStart (i : SegIdx) (s : State) : State :=
  { s with queue := [], walker := { Walker.stoppedState with st := .walking, next := .arrive i false } }

/-- A walker grant in progress becomes one that reads to its end with its halfwords discarded (R78). -/
def discardedWalker : Option Grant → Option Grant
  | some (.walker _) => some (.walker false)
  | g => g

/-- A walker grant in progress reads to its end and its halfwords are discarded (R78). -/
def discardWalkerGrant (s : State) : State := { s with mem.grant := discardedWalker s.mem.grant }

/-- The queue is discarded and the walker stops, without release (R78, R79). -/
def walkerStop (s : State) : State := discardWalkerGrant { s with queue := [], walker := Walker.stoppedState }

/-! ## The record fetch (R62 to R64) -/

/-- Decode checks of Table 2-4, in order; the first that fails decides the fault (R27). -/
def decodeFault (s : State) (h : HW) (parts : Vector (Option PortPart) 4) : Option FaultCode :=
  if hdrReserved h then some .badVector
  else if !s.tsets.sets[hdrTset h].valid then some .badVector
  else if all4.any fun p => parts[p].isSome && !s.ports.cfg[p].enabled then some .portStandby
  else if all4.any fun p => match parts[p] with
      | some q => hasMixedLane s.ports.cfg[p] q
      | none => false then some .mixedLane
  else none

/-- The decoded vector of a record that passed its checks, for an entry and repeat iteration k (R29, R32). -/
def decodeVector (s : State) (e : SegImage) (k : Nat) (h : HW) (parts : Vector (Option PortPart) 4) : DecodedVector :=
  { tset := hdrTset h, timing := s.tsets.sets[hdrTset h],
    parts := vec4 fun p => parts[p].map (modifyPart e s.ports.cfg[p] p k),
    mark := hdrMark h, capture := hdrCapture h }

/-- After a VECTOR item the fetch address advances by the record's length (R62 step 3). Then comes the next record of the
iteration, the next iteration, or after the arrival's last record the leaving (R64). -/
def advanceFetch (e : SegImage) (len : Nat) (s : State) : State :=
  let t := s.walker.tags
  let s := { s with walker.fetchAddr := s.walker.fetchAddr + len }
  if t.off.toNat + 1 < segCount e then { s with walker.tags := { t with off := t.off + 1 } }
  else if t.iter.toNat + 1 < segRepeat e then
    startIteration e { s with walker.tags := { t with off := 0, iter := t.iter + 1 } }
  else { s with walker.next := .leave }

/-- The record of which header and port parts have been read: decode checks, modifier, push (R27, R64). -/
def pushRecord (e : SegImage) (h : HW) (body : List HW) (s : State) : State :=
  let t := s.walker.tags
  let parts := recordParts h body
  match decodeFault s h parts with
  | some code => pushFault code t s
  | none =>
    let v := decodeVector s e t.iter.toNat h parts
    let s := pushItem (.vector v t (decide (t.off.toNat + 1 = segCount e))) s
    queueTest (advanceFetch e (recordLength h) s)

/-- The fetch of one record under its grant: the header, the extent check, the port parts, decode (R62, R63). -/
def fetchRecord (e : SegImage) (s : State) : State :=
  let a := s.walker.fetchAddr
  let (h, s) := readHalf a s
  if rangeInKind s .vector a (recordLength h) then
    let (body, s) := readHalves (recordLength h - 1) (a + 1) s
    pushRecord e h body s
  else pushFault .fetchZone s.walker.tags s

/-! ## The WAIT item (R61, R71) -/

/-- The WAIT item of an entry, with the timing of WTSET at the arrival (Table 4-3). -/
def waitItemOf (s : State) (e : SegImage) : WaitItem :=
  { kind := if segWaitCode e = 1 then .trigger else .levels, line := segTrgLine e, mport := segMport e,
    mexp := segMexp e, mcare := segMcare e, wtset := segWtset e, timing := s.tsets.sets[segWtset e],
    timeout := segWtimeout e, skip := segToact e == 1 }

/-- Push the WAIT item: STALL_WAIT behind a SKIP wait, whose records begin only when it is satisfied (R75); else iteration
0 of the records begins (R61, R62, R72). -/
def pushWaitItem (c : CurrentEntry) (s : State) : State :=
  let w := waitItemOf s c.img
  let s := pushItem (.wait w s.walker.tags) s
  let s := { s with walker.next := .fetch }
  if w.skip then { s with walker.st := .stallWait } else queueTest (startIteration c.img s)

/-- A SKIP wait is satisfied: the walker leaves STALL_WAIT for WALKING, and iteration 0 of the entry's records begins
(R62, R75). -/
def skipSatisfied (s : State) : State :=
  if s.walker.st = .stallWait then
    let s := { s with walker.st := .walking }
    match s.walker.cur with
    | some c => startIteration c.img s
    | none => s
  else s

/-- The position an underrun names: the walker's tags, or the entry the walker is about to arrive at (R85; log entry
9). -/
def walkerPosition (s : State) : Tags :=
  match s.walker.next with
  | .arrive i _ => entryTags i s.walker.tags.pass
  | _ => s.walker.tags

end Sys2Proof.Machine
end

