-- ==== Sys2Proof/Machine/RunOps.lean ====
section
/-! DEFINITION. The shared operations of the applier and run control: entry to STOPPING, pauses, the taking of the head
item, priming, and the resolution of waits (05_applying_vectors.md; 06_run_control.md). -/

namespace Sys2Proof.Machine

/-! ## Entry to STOPPING (R122) -/

/-- The applier ends any stream: HELD, no current vector, no wait, marker clear (R99). -/
def applierStop (s : State) : State :=
  { s with app.stream := .held, app.period := none, app.wait := none, app.skipOnce := false }

/-- Run control's requests, step request, suspended wait and starvation timer are discarded (R99, R122). -/
def requestsClear (s : State) : State :=
  { s with run.stopReq := false, run.pauseFail := false, run.pauseHost := false, run.pauseStep := false,
           run.stepReq := false, run.starve := none, run.suspended := none }

/-- Entry of the sequencer to STOPPING with a cause; for FAULT with the code and position of the fault (R122, R123): the
walker and the applier stop, the ports park, the output lines go inactive, and the drain begins. -/
def enterStopping (cause : Cause) (code : FaultCode) (pos : Tags) (s : State) : State :=
  let s := requestsClear (applierStop (walkerStop s))
  let s := { s with run.state := .stopping, run.cause := cause,
                    run.fault := if cause = .fault then ⟨code, pos⟩ else s.run.fault }
  beginDrain (linesAllOff (parkAll s))

/-- A stop on a fault (R122). -/
def stopOnFault (code : FaultCode) (pos : Tags) (s : State) : State := enterStopping .fault code pos s

/-- A stop with no fault (R122). -/
def stopRun (cause : Cause) (s : State) : State := enterStopping cause .none Tags.zero s

/-! ## Pauses (R100, R107, R108) -/

/-- Entry to PAUSED with a cause, and with the kind of the wait it suspends, if any; sets the PAUSED flag (R107). -/
def enterPaused (cause : Cause) (suspended : Option Cause) (s : State) : State :=
  raise .paused
    { s with app.stream := .held, run.state := .paused, run.cause := cause, run.suspended := suspended }

/-- Entry to WAITING with a cause; sets the WAITING flag (R192). -/
def enterWaiting (cause : Cause) (s : State) : State :=
  raise .waiting
    { s with app.stream := .held, run.state := .waiting, run.cause := cause, run.suspended := none }

/-- The cause that WAITING shows for a WAIT item. -/
def WaitKind.cause : WaitKind → Cause
  | .trigger => .trigger
  | .levels => .levels

/-! ## The breakpoint test (R110, R111) -/

/-- A breakpoint unit matches an item's tags (R110). -/
def Breakpoint.hits (b : Breakpoint) (t : Tags) : Bool :=
  b.enable && (!b.segen || b.seg.toNat == t.seg.toNat) && (!b.offen || b.off == t.off) &&
    (!b.iteren || b.iter == t.iter)

/-- The cause of a breakpoint pause before an item, unit 0 first (R111). -/
def breakCause (s : State) (t : Tags) : Option Cause :=
  if s.run.bp[0].hits t then some .break0 else if s.run.bp[1].hits t then some .break1 else none

/-! ## The taking (R83 to R87) -/

/-- The head item leaves the queue, and a walker in STALL_FULL sees the freed place (R72). -/
def dropHead (rest : List Item) (s : State) : State :=
  { s with queue := rest, walker.st := if s.walker.st = .stallFull then .walking else s.walker.st }

/-- The taking of a VECTOR item: its period begins, VCOUNT advances, the period start indication is given, and a step
request becomes a pause request for the period's end (R86, R87, R95, R109). -/
def beginPeriod (v : DecodedVector) (t : Tags) (eop : Bool) (s : State) : State :=
  let p : Period := { vec := v, tags := t, endOfPass := eop, vnum := s.app.vcount, tick := 0, driven := false,
                      strobed := false }
  periodStartIndication
    { s with app.stream := .streaming, app.period := some p, app.skipOnce := false, app.vcount := s.app.vcount + 1,
             run.state := .running, run.cause := .none, run.suspended := none,
             run.pauseStep := s.run.pauseStep || s.run.stepReq, run.stepReq := false }

/-- A breakpoint matched: the item stays at the head with the skip-once marker, and the step request is cleared (R86,
R109, R111). -/
def breakBefore (cause : Cause) (s : State) : State :=
  enterPaused cause none { s with app.skipOnce := true, run.stepReq := false }

/-- The taking of a VECTOR item at the head, after the breakpoint test unless the skip-once marker is set (R86). -/
def takeVector (v : DecodedVector) (t : Tags) (eop : Bool) (rest : List Item) (s : State) : State :=
  match if s.app.skipOnce then none else breakCause s t with
  | some cause => breakBefore cause s
  | none => beginPeriod v t eop (dropHead rest s)

/-- The taking of a WAIT item: it becomes the wait in progress with its full timeout, and its first wait period begins
(R96, R112). -/
def takeWait (w : WaitItem) (t : Tags) (rest : List Item) (s : State) : State :=
  let p : WaitProgress := { item := w, tags := t, remaining := w.timeout, tick := 0, sampled := false, observed := 0,
                            mismatch := 0 }
  enterWaiting w.kind.cause { dropHead rest s with app.wait := some p }

/-- A taking on an empty queue: WAITING(NOT_READY) with the walker in STALL_READY, else UNDERRUN (R85, R117). -/
def takeEmpty (s : State) : State :=
  if s.walker.st = .stallReady then enterWaiting .notReady { s with run.starve := some 0 }
  else stopOnFault .underrun (walkerPosition s) s

/-- The taking (Table 5-2). -/
def taking (s : State) : State :=
  match s.queue with
  | .vector v t eop :: rest => takeVector v t eop rest s
  | .wait w t :: rest => takeWait w t rest s
  | .endChain _ :: rest => stopRun .complete (dropHead rest s)
  | .fault code t :: rest => stopOnFault code t (dropHead rest s)
  | [] => takeEmpty s

/-- The applier enters PRIMING and the sequencer RUNNING; with the queue already primed the stream begins at that event
(R82). -/
def enterPriming (s : State) : State :=
  let s := { s with app.stream := .priming, run.state := .running, run.cause := .none, run.suspended := none }
  if primed s then taking s else s

/-! ## Waits (R113 to R117) -/

/-- A TRIGGER or MATCH wait is satisfied: it is cleared, the walker behind a SKIP wait goes on to the entry's records,
and the applier enters PRIMING (R75, R113). -/
def satisfyWait (w : WaitProgress) (s : State) : State :=
  let s := { s with app.wait := none }
  enterPriming (if w.item.skip then skipSatisfied s else s)

/-- The TIMEOUT record of a wait, but for its sequence number (R115, R135). -/
def timeoutRecord (w : WaitProgress) (s : State) : LogRecord :=
  { kind := .timeout,
    mask := match w.item.kind with | .trigger => 0 | .levels => BitVec.ofNat 4 (2 ^ w.item.mport.val),
    seq := 0, tags := { w.tags with off := 0, iter := 0 }, tset := w.item.wtset, vnum := s.app.vcount,
    body := match w.item.kind with | .trigger => [] | .levels => [w.mismatch, w.observed] }

/-- The timeout of a TRIGGER or MATCH wait: the TIMEOUT record, then TOACT (R115). -/
def timeoutWait (w : WaitProgress) (s : State) : State :=
  let s := produceRecord (timeoutRecord w s) s
  let s := { s with app.wait := none }
  if w.item.skip then enterPriming (skipTimedOut s)
  else stopOnFault .waitTimeout w.tags s

/-- The walker has left STALL_READY: the starvation timer is discarded, and a NOT_READY wait being made is resolved. One
that a pause suspended is resolved at the RESUME or STEP, which finds no timer (R117). -/
def resolveNotReady (s : State) : State :=
  let s := { s with run.starve := none }
  if s.run.state = .waiting ∧ s.run.cause = .notReady then enterPriming s else s

/-- The entry `n` has just been made ready: a walker stalled on it arrives at it in the same event, and a NOT_READY wait
is resolved (R41, R43, R58, R117). -/
def readyPending (n : SegIdx) (s : State) : State :=
  if s.walker.st = .stallReady ∧ s.walker.pend = some n then
    let loopBack := match s.walker.next with | .arrive _ b => b | _ => false
    resolveNotReady (walkerArrive n loopBack s)
  else s

/-! ## The start of a run (R103) -/

/-- The state that describes a run is cleared at an accepted START or ARM, and the walk begins at entry `i` (R103). -/
def clearRun (i : SegIdx) (s : State) : State :=
  let s := requestsClear s
  walkerStart i
    { s with
      run.fault := FaultRecord.cleared, run.drainAborted := false
      app.skipOnce := false, app.vcount := 0, app.failcount := 0, app.firstfail := FirstFail.cleared,
      app.passdone := PassDone.cleared, app.period := none, app.wait := none
      log.dropcount := 0, log.seqno := 0, log.fifo := [], log.endProduced := false
      seg.lastrel := 127 }

end Sys2Proof.Machine
end

