-- ==== Sys2Proof/Machine/ApplierSteps.lean ====
section
/-! DEFINITION. The applier's steps: the beginning of a stream, the drive edge, the strobe and the end of a period, and
the periods and samples of waits (05_applying_vectors.md; R112 to R120). -/

namespace Sys2Proof.Machine

/-- STREAM_BEGIN: in PRIMING, once the queue has become primed (R82). -/
def execStreamBegin (s : State) : Result :=
  eventStep (s.app.stream == .priming && s.run.state == .running && primed s) taking s

/-! ## The drive edge (R89) -/

/-- The strobe of a period comes before its drive edge, or on the same tick and is taken first (R88). -/
def strobeFirst (p : Period) : Bool := decide (p.vec.timing.stb.toNat ≤ p.vec.timing.drv.toNat)

/-- The drive edge occurs: not yet taken in this period, and not before a strobe that comes first (R88). -/
def driveDue (p : Period) : Bool := !p.driven && (!strobeFirst p || p.strobed)

/-- The drive edge of the current vector (R7, R89): the present ports' pins, and the mark indication. -/
def driveEdge (p : Period) (s : State) : State :=
  let s := { s with ports.pins := vec4 fun k => drivePort p.vec.parts[k] s.ports.pins[k]
                    app.period := some { p with driven := true, tick := p.vec.timing.drv.toNat } }
  if p.vec.mark then linesOn .outMark s else s

/-- A period in progress that meets a condition. -/
def periodIs (cond : Period → Bool) (s : State) : Bool :=
  match s.app.period with
  | some p => cond p
  | none => false

/-- DRIVE_EDGE (R89). -/
def execDriveEdge (s : State) : Result :=
  eventStep (periodIs driveDue s)
    (fun s => match s.app.period with | some p => driveEdge p s | none => s) s

/-! ## The strobe (R90 to R94, R120) -/

/-- The strobe occurs: not yet taken in this period, and not before a drive edge that comes first (R88). -/
def strobeDue (p : Period) : Bool := !p.strobed && (strobeFirst p || p.driven)

/-- The lane-result words of the present ports for the sampled levels (R15). -/
def laneResults (s : State) (v : DecodedVector) (pads : Vector HW 4) : Vector (Option HW) 4 :=
  vec4 fun k => v.parts[k].map fun q => laneResult s.ports.cfg[k] q pads[k]

/-- The set of failing ports: those whose lane-result word is not zero (R15). -/
def failingPorts (results : Vector (Option HW) 4) : BitVec 4 :=
  BitVec.ofNat 4 ((all4.map fun k => match results[k] with
    | some w => if w = 0 then 0 else 2 ^ k.val
    | none => 0).sum)

/-- The set of present ports. -/
def presentPorts (results : Vector (Option HW) 4) : BitVec 4 :=
  BitVec.ofNat 4 ((all4.map fun k => if results[k].isSome then 2 ^ k.val else 0).sum)

/-- The port parts of a record for the ports of a mask, A to D: lane-result word, then observed value (R92, R93). -/
def resultParts (mask : BitVec 4) (results : Vector (Option HW) 4) (pads : Vector HW 4) : List HW :=
  all4.flatMap fun k => if mask.getLsbD k.val then [results[k].getD 0, pads[k]] else []

/-- A FAIL or CAPTURE record of the current vector for the ports of a mask, but for its sequence number (R92, R93). -/
def vectorRecord (kind : RecordKind) (p : Period) (mask : BitVec 4) (results : Vector (Option HW) 4)
    (pads : Vector HW 4) : LogRecord :=
  { kind := kind, mask := mask, seq := 0, tags := p.tags, tset := p.vec.tset, vnum := p.vnum,
    body := resultParts mask results pads }

/-- FIRSTFAIL at the strobe at which FAILCOUNT rises from 0 to 1 (R94). -/
def recordFirstFail (p : Period) (s : State) : State :=
  raise .firstFail { s with app.firstfail := ⟨p.tags, p.vnum⟩ }

/-- Run control's request after a failing strobe (R120): a stop at the fail limit, else a pause by the policy. -/
def failRequest (s : State) : State :=
  if s.run.faillimit ≠ 0 ∧ s.app.failcount.toNat = s.run.faillimit.toNat then { s with run.stopReq := true }
  else if s.run.failPause then { s with run.pauseFail := true }
  else s

/-- A failing vector is counted and reported (R91): FAILCOUNT, the fail indication, FIRSTFAIL and run control's
request. -/
def countFailure (p : Period) (s : State) : State :=
  let first := s.app.failcount = 0
  let s := linesOn .outFail { s with app.failcount := satAdd s.app.failcount 1 }
  failRequest (if first then recordFirstFail p s else s)

/-- The strobe of the current vector with the sampled levels (R90): the failure and its FAIL record, then the CAPTURE
record. -/
def strobe (p : Period) (pads : Vector HW 4) (s : State) : State :=
  let results := laneResults s p.vec pads
  let failing := failingPorts results
  let s := { s with app.period := some { p with strobed := true, tick := p.vec.timing.stb.toNat } }
  let s := if failing = 0 then s
    else produceRecord (vectorRecord .fail p failing results pads) (countFailure p s)
  if p.vec.capture then produceRecord (vectorRecord .capture p (presentPorts results) results pads) s else s

/-- STROBE (R90). -/
def execStrobe (pads : Vector HW 4) (s : State) : Result :=
  eventStep (periodIs strobeDue s)
    (fun s => match s.app.period with | some p => strobe p pads s | none => s) s

/-! ## The end of a period (R84) -/

/-- The period can end: its drive edge and its strobe have been taken, since both fall inside it (R88). -/
def periodOver (p : Period) : Bool := p.driven && p.strobed

/-- PASSDONE takes the position of a vector that carries the end-of-pass flag (R98). -/
def updatePassdone (p : Period) (s : State) : State :=
  if p.endOfPass then { s with app.passdone := ⟨p.tags.seg, p.tags.iter, p.tags.pass⟩ } else s

/-- The highest-ranked pause request held: FAIL, then HOST, then STEP (R108). -/
def pauseCause (s : State) : Option Cause :=
  if s.run.pauseFail then some .fail
  else if s.run.pauseHost then some .host
  else if s.run.pauseStep then some .step
  else none

/-- A pause at a period end: every request held is discarded (R108). -/
def pauseAtEnd (cause : Cause) (s : State) : State :=
  enterPaused cause none { s with run.pauseFail := false, run.pauseHost := false, run.pauseStep := false }

/-- The end of the current vector's period, in the order of R84. -/
def endPeriod (p : Period) (s : State) : State :=
  let s := { updatePassdone p s with app.period := none }
  if s.run.stopReq then stopRun .failLimit s
  else match pauseCause s with
    | some cause => pauseAtEnd cause s
    | none => taking s

/-- PERIOD_END (R84). -/
def execPeriodEnd (s : State) : Result :=
  eventStep (periodIs periodOver s)
    (fun s => match s.app.period with | some p => endPeriod p s | none => s) s

/-! ## Waits (R112 to R115) -/

/-- A TRIGGER or MATCH wait is being made, and its progress meets a condition. -/
def waitIs (cond : WaitProgress → Bool) (s : State) : Bool :=
  s.run.state == .waiting && s.run.cause != .notReady &&
    (match s.app.wait with
    | some w => cond w
    | none => false)

/-- The sample of a MATCH wait occurs: not yet taken in this wait period (R114). -/
def sampleDue (w : WaitProgress) : Bool := w.item.kind == .levels && !w.sampled

/-- The sample of a MATCH wait at tick STB: kept for a TIMEOUT record; a match satisfies the wait (R114). -/
def matchSample (w : WaitProgress) (pads : Vector HW 4) (s : State) : State :=
  let observed := pads[w.item.mport]
  let mismatch := matchMismatch w.item observed
  let w := { w with sampled := true, tick := w.item.timing.stb.toNat, observed := observed, mismatch := mismatch }
  let s := { s with app.wait := some w }
  if mismatch = 0 then satisfyWait w s else s

/-- MATCH_SAMPLE (R114). -/
def execMatchSample (pads : Vector HW 4) (s : State) : Result :=
  eventStep (waitIs sampleDue s)
    (fun s => match s.app.wait with | some w => matchSample w pads s | none => s) s

/-- A wait period can end: a MATCH wait's sample of it has been taken, since STB is less than PER (R114). -/
def waitPeriodOver (w : WaitProgress) : Bool := w.item.kind == .trigger || w.sampled

/-- A wait period ends: with a limit the remaining count falls by 1 and the wait times out at 0; otherwise the next
wait period begins (R112, R115). -/
def endWaitPeriod (w : WaitProgress) (s : State) : State :=
  let w := { w with tick := 0, sampled := false }
  if w.item.timeout = 0 then { s with app.wait := some w }
  else
    let w := { w with remaining := w.remaining - 1 }
    let s := { s with app.wait := some w }
    if w.remaining = 0 then timeoutWait w s else s

/-- WAIT_PERIOD_END (R115). -/
def execWaitPeriodEnd (s : State) : Result :=
  eventStep (waitIs waitPeriodOver s)
    (fun s => match s.app.wait with | some w => endWaitPeriod w s | none => s) s

end Sys2Proof.Machine
end

