-- ==== Sys2Proof/Machine/RunSettings.lean ====
section
/-! DEFINITION. The writes of the settings of ports, timing sets, the start entry, run control and the breakpoints
(R4, R24, R50, R106, R110, R118, R119). The configuration lock is judged before any check of the register's own (R126). -/

namespace Sys2Proof.Machine

/-- The configuration lock, then the register's own check (R126). -/
def lockedCheck (bad : Bool) (s : State) : Option Status :=
  firstRefusal [(runActive s, .configLocked), (bad, .badArg)]

/-- The effect of an accepted PORTCFG write: the record, and at once the port's pins: RECEIVE in standby, the park state
when enabled (R3, R5). -/
def setPortCfg (p : Port) (cfg : PortCfg) (s : State) : State :=
  let pins := s.ports.pins[p]
  { s with ports.cfg := s.ports.cfg.set p cfg,
           ports.pins := s.ports.pins.set p (if cfg.enabled then parkPins cfg.park pins else { pins with dir := 0 }) }

/-- The offset of a port's PORTCFG register (Table 12-1). -/
def portcfgOffset (p : Port) : BitVec 7 := BitVec.ofNat 7 (0x54 + p.val)

/-- PORTCFG_WRITE (R4, R5). -/
def execPortcfgWrite (p : Port) (v : HW) (s : State) : Result :=
  registerAccess (lockedCheck (parsePortCfg v).isNone) (portcfgOffset p)
    (fun s => match parsePortCfg v with | some cfg => setPortCfg p cfg s | none => s) s

/-- TSETSEL_WRITE: not under the lock; a value 0 to 7 selects that set (R24). -/
def execTsetselWrite (v : HW) (s : State) : Result :=
  registerAccess (fun _ => firstRefusal [(decide (8 ≤ v.toNat), .badArg)]) 0x5C
    (fun s => { s with tsets.sel := (v.extractLsb' 0 3).toFin }) s

/-- One value of a timing set replaced, the other two kept (R24). -/
def TimingSet.setField (t : TimingSet) (f : TsetField) (v : HW) : TimingSet :=
  match f with
  | .per => { t with per := v }
  | .drv => { t with drv := v }
  | .stb => { t with stb := v }

/-- The offset of TSETPER, TSETDRV and TSETSTB (Table 12-1). -/
def tsetOffset : TsetField → BitVec 7
  | .per => 0x5D | .drv => 0x5E | .stb => 0x5F

/-- TSET_VALUE_WRITE: locked during a run, any value (R24). -/
def execTsetValueWrite (f : TsetField) (v : HW) (s : State) : Result :=
  registerAccess (lockedCheck false) (tsetOffset f)
    (fun s => { s with tsets.sets := s.tsets.sets.set s.tsets.sel (s.tsets.sets[s.tsets.sel].setField f v) }) s

/-- STARTSEG_WRITE: locked during a run; 0 to 127 is stored (R50). -/
def execStartsegWrite (v : HW) (s : State) : Result :=
  registerAccess (lockedCheck (decide (128 ≤ v.toNat))) 0x30
    (fun s => { s with seg.startseg := v.extractLsb' 0 7 }) s

/-- ARMCFG_WRITE: locked during a run; 0 to 3 (R106). -/
def execArmcfgWrite (v : HW) (s : State) : Result :=
  registerAccess (lockedCheck (decide (4 ≤ v.toNat))) 0x31
    (fun s => { s with run.armcfg := (v.extractLsb' 0 2).toFin }) s

/-- STARVETO_WRITE: locked during a run, any value (R118). -/
def execStarvetoWrite (v : HW) (s : State) : Result :=
  registerAccess (lockedCheck false) 0x32 (fun s => { s with run.starveto := v }) s

/-- FAILPOLICY_WRITE: locked during a run; 0 CONTINUE or 1 PAUSE (R119). -/
def execFailpolicyWrite (v : HW) (s : State) : Result :=
  registerAccess (lockedCheck (decide (2 ≤ v.toNat))) 0x33 (fun s => { s with run.failPause := v.getLsbD 0 }) s

/-- FAILLIMIT_WRITE: locked during a run, any value (R119). -/
def execFaillimitWrite (v : HW) (s : State) : Result :=
  registerAccess (lockedCheck false) 0x34 (fun s => { s with run.faillimit := v }) s

/-- The breakpoint values that a write refuses (R110). -/
def bpBad (r : BpReg) (v : HW) : Bool :=
  match r with
  | .ctl => decide (16 ≤ v.toNat)
  | .seg => decide (64 ≤ v.toNat)
  | .off => v == 65535
  | .iter => decide (4096 ≤ v.toNat)

/-- One register of a breakpoint unit replaced (R110). -/
def Breakpoint.setReg (b : Breakpoint) (r : BpReg) (v : HW) : Breakpoint :=
  match r with
  | .ctl => { b with enable := v.getLsbD 0, segen := v.getLsbD 1, offen := v.getLsbD 2, iteren := v.getLsbD 3 }
  | .seg => { b with seg := v.extractLsb' 0 6 }
  | .off => { b with off := v }
  | .iter => { b with iter := v.extractLsb' 0 12 }

/-- The place of a register within its breakpoint unit (Table 12-1). -/
def bpRegPlace : BpReg → Nat
  | .ctl => 0 | .seg => 1 | .off => 2 | .iter => 3

/-- The offset of a breakpoint register (Table 12-1). -/
def bpOffset (n : Fin 2) (r : BpReg) : BitVec 7 := BitVec.ofNat 7 (0x38 + 4 * n.val + bpRegPlace r)

/-- BREAKPOINT_WRITE: in every sequencer state, subject to the value's range (R110). -/
def execBreakpointWrite (n : Fin 2) (r : BpReg) (v : HW) (s : State) : Result :=
  registerAccess (fun _ => firstRefusal [(bpBad r v, .badArg)]) (bpOffset n r)
    (fun s => { s with run.bp := s.run.bp.set n (s.run.bp[n].setReg r v) }) s

end Sys2Proof.Machine
end

