-- ==== Sys2Proof/Machine/Controller.lean ====
section
/-! DEFINITION. The memory controller: zone registers, REFINT, MEMSTAT, refresh and the end of initialization
(09_pattern_memory.md). -/

namespace Sys2Proof.Machine

/-- ZONESEL_WRITE: in every state; 0 to 7 (R161). -/
def execZoneselWrite (v : HW) (s : State) : Result :=
  registerAccess (fun _ => firstRefusal [(decide (8 ≤ v.toNat), .badArg)]) 0x74
    (fun s => { s with mem.zonesel := (v.extractLsb' 0 3).toFin }) s

/-- The 32-bit value or the halfword that a zone register's write carries: ZBASE and ZLIMIT complete a pair (R162). -/
def zoneValue (s : State) (r : ZoneReg) (v : HW) : Word :=
  match r with
  | .zbase => joined s .zbase v
  | .zlimit => joined s .zlimit v
  | .zattr => v.setWidth 32

/-- The descriptor a zone write would produce, when the value is in the field's range and names a KIND (R162 check 4). -/
def zoneWritten (z : Zone) (r : ZoneReg) (v : Word) : Option Zone :=
  match r with
  | .zbase => if v.toNat < 2 ^ 25 then some { z with base := v.setWidth 25 } else none
  | .zlimit => if v.toNat < 2 ^ 25 then some { z with limit := v.setWidth 25 } else none
  | .zattr =>
    if v.toNat < 16 then
      (ZoneKind.ofCode (v.extractLsb' 0 2)).map fun k =>
        { z with kind := k, wrun := v.getLsbD 2, enabled := v.getLsbD 3 }
    else none

/-- Two zones share an address. -/
def Zone.overlaps (a b : Zone) : Bool :=
  decide (a.base.toNat ≤ b.limit.toNat) && decide (b.base.toNat ≤ a.limit.toNat)

/-- The descriptor `n` that a write would produce is refused: enabled, with BASE above LIMIT, LIMIT beyond the DRAM, or
an address shared with another enabled descriptor (R162 check 5). -/
def zoneBad (s : State) (n : Fin 8) (z : Zone) : Bool :=
  z.enabled && (decide (z.limit.toNat < z.base.toNat) || decide (dramSize s ≤ z.limit.toNat)
    || all8.any fun j => j != n && s.mem.zones[j].enabled && z.overlaps s.mem.zones[j])

/-- Checks 4 and 5 of R162 on the selected descriptor. -/
def zoneWriteBad (s : State) (r : ZoneReg) (v : HW) : Bool :=
  match zoneWritten s.mem.zones[s.mem.zonesel] r (zoneValue s r v) with
  | none => true
  | some z => zoneBad s s.mem.zonesel z

/-- The checks of a zone descriptor write, in order (R162). -/
def zoneRefusal (r : ZoneReg) (v : HW) (s : State) : Option Status :=
  firstRefusal [(runActive s, .configLocked), (s.win.posted != [], .wbufPending), (memopBusy s, .memopBusy),
    (zoneWriteBad s r v, .badArg)]

/-- The offset of the halfword that completes a zone register's write (Table 12-1). -/
def zoneOffset : ZoneReg → BitVec 7
  | .zbase => 0x76 | .zlimit => 0x78 | .zattr => 0x79

/-- ZONE_DESCRIPTOR_WRITE (R162). -/
def execZoneDescriptorWrite (r : ZoneReg) (v : HW) (s : State) : Result :=
  registerAccess (zoneRefusal r v) (zoneOffset r)
    (fun s => match zoneWritten s.mem.zones[s.mem.zonesel] r (zoneValue s r v) with
      | some z => { s with mem.zones := s.mem.zones.set s.mem.zonesel z }
      | none => s) s

/-- REFINT_WRITE: locked during a run; 64 to 65535; a new interval begins at the write (R165). -/
def execRefintWrite (v : HW) (s : State) : Result :=
  registerAccess (lockedCheck (decide (v.toNat < 64))) 0x7A
    (fun s => { s with mem.refint := v, mem.refTimer := 0 }) s

/-- MEMSTAT_WRITE: a written REFMISS bit of 1 clears REFMISS; every other bit is ignored (R171). -/
def execMemstatWrite (v : HW) (s : State) : Result :=
  registerAccess (fun _ => none) 0x7B
    (fun s => if v.getLsbD 7 then { s with mem.refmiss := false } else s) s

/-- A missed refresh: REFMISS and REFRESH_MISSED; from now on a halfword not written since may read as anything (R166).
The halfwords that a write grant in progress has yet to write in the model, at a later row, count as written after the miss
(log entry 3). -/
def missRefresh (s : State) : State :=
  raise .refreshMissed { s with mem.refmiss := true, dram.cells := [], dram.decayed := true }

/-- REFRESH_TIMER_EXPIRY: the owed count rises, or at 8 a refresh is missed; the timer begins a new interval (R166). -/
def execRefreshTimerExpiry (s : State) : Result :=
  eventStep s.mem.ready
    (fun s =>
      let s := { s with mem.refTimer := 0 }
      if s.mem.owed < 8 then { s with mem.owed := s.mem.owed + 1 } else missRefresh s) s

/-- REFRESH_COMPLETION: a refresh grant ends and the owed count falls (R166). -/
def execRefreshCompletion (s : State) : Result :=
  eventStep (s.mem.grant == some .refresh)
    (fun s => { freePort s with mem.owed := s.mem.owed - 1 }) s

/-- MEM_INIT_END: the controller enters READY, nothing owed, the refresh timer begins its first interval, and MEM_READY
is set (R160, R165, R166). While RESET_N is low the sequence does not run (R173). -/
def execMemInitEnd (s : State) : Result :=
  eventStep (!s.mem.ready && !s.resetLow)
    (fun s => raise .memReady { s with mem.ready := true, mem.owed := 0, mem.refTimer := 0 }) s

end Sys2Proof.Machine
end

