-- ==== Sys2Proof/Machine/WindowEngine.lean ====
section
/-! DEFINITION. The window engine: the data port, posted writes, read-ahead, FILL, COPY, PATCH and MEMOP_CANCEL, and the
grants that carry them out (10_the_register_window.md, R181 to R188). -/

namespace Sys2Proof.Machine

/-! ## The read-ahead buffer (R182, R183) -/

/-- A fetch grant in progress becomes one whose halfwords are discarded (R183). -/
def discardedFetch : Option Grant → Option Grant
  | some (.window (.fetch a n _)) => some (.window (.fetch a n false))
  | g => g

/-- A fetch whose grant is in progress reads to its end with its halfwords discarded (R183). -/
def discardFetchGrant (s : State) : State := { s with mem.grant := discardedFetch s.mem.grant }

/-- The read-ahead buffer is discarded and a fetch requested or granted is withdrawn or wasted (R183). -/
def discardAhead (s : State) : State := discardFetchGrant { s with win.ahead := [], win.fetch := none }

/-- WADDR advances by the stride, modulo 2^25 (R181). -/
def advanceWaddr (s : State) : State :=
  { s with win.waddr := if s.win.stride then s.win.waddr + 1 else s.win.waddr }

/-- How many halfwords a fetch at WADDR reads: one with stride 0; with stride 1 up to 4, to the zone's LIMIT (R182). -/
def fetchLength (s : State) (z : Zone) : Nat :=
  if s.win.stride then min 4 (z.limit.toNat - s.win.waddr.toNat + 1) else 1

/-- The window engine requests a fetch at WADDR, provided WADDR lies in an enabled zone (R182). -/
def requestFetch (s : State) : State :=
  match waddrZone s with
  | some z => { s with win.fetch := some ⟨s.win.waddr.toNat, fetchLength s z⟩ }
  | none => s

/-- A read waits for a fetch: the one in progress, or else a new one (R182). -/
def fetchForRead (s : State) : State := if s.win.fetch.isSome then s else requestFetch s

/-- With stride 1, a read that leaves the buffer empty starts a background fetch, with no writes posted (R182). -/
def backgroundFetch (s : State) : State :=
  if s.win.stride && s.win.ahead == [] && s.win.posted == [] then requestFetch s else s

/-- A read is answered from the buffer's first halfword, which leaves the buffer; WADDR advances (R181, R182). -/
def serveRead (s : State) : State :=
  match s.win.ahead with
  | v :: rest => backgroundFetch (advanceWaddr { s with win.busData := v, win.ahead := rest, win.access := none })
  | [] => s

/-! ## Data-port reads (R182) -/

/-- The checks of a WDATA read, in order (R182). -/
def wdataReadRefusal (s : State) : Option Status :=
  firstRefusal [(!s.mem.ready, .memNotReady), (memopBusy s, .memopBusy), (outOfZone s s.win.waddr.toNat 1, .outOfZone)]

/-- An accepted WDATA read: held while writes are posted; answered at once from the buffer with stride 1; else held for
a fetch (R182). -/
def acceptRead (s : State) : State :=
  if s.win.posted ≠ [] then { s with win.access := some .wdataRead }
  else if s.win.stride && s.win.ahead != [] then serveRead s
  else fetchForRead { s with win.access := some .wdataRead }

/-- WDATA_READ; a refused read returns 0 (R182). -/
def execWdataRead (s : State) : Result :=
  hostAccess (fun s => match wdataReadRefusal s with
    | some code => refuseAccess code 0x12 { s with win.busData := 0 }
    | none => acceptRead s) s

/-- READ_AHEAD_FETCH: the grant has read its halfwords; they enter the buffer and end a held read, or are discarded
(R182, R183). -/
def endFetch (addr n : Nat) (live : Bool) (s : State) : State :=
  let (data, s) := readHalves n addr (freePort s)
  if live then
    let s := { s with win.ahead := data, win.fetch := none }
    if s.win.access = some .wdataRead then serveRead s else s
  else s

/-- The window unit in the grant, if the window holds the port. -/
def windowUnit (s : State) : Option WinUnit :=
  match s.mem.grant with
  | some (.window u) => some u
  | _ => none

/-- The window holds the port with a unit of a kind. -/
def windowHolds (kind : WinUnit → Bool) (s : State) : Bool :=
  match windowUnit s with
  | some u => kind u
  | none => false

/-- The kinds of window units. -/
def WinUnit.isDrain : WinUnit → Bool | .drain .. => true | _ => false
/-- A fetch unit. -/
def WinUnit.isFetch : WinUnit → Bool | .fetch .. => true | _ => false
/-- A FILL burst. -/
def WinUnit.isFill : WinUnit → Bool | .fill .. => true | _ => false
/-- The read grant of a COPY burst. -/
def WinUnit.isCopyRead : WinUnit → Bool | .copyRead .. => true | _ => false
/-- The write grant of a COPY burst. -/
def WinUnit.isCopyWrite : WinUnit → Bool | .copyWrite .. => true | _ => false
/-- A PATCH read-modify-write. -/
def WinUnit.isPatch : WinUnit → Bool | .patch .. => true | _ => false

/-- READ_AHEAD_FETCH (R182). -/
def execReadAheadFetch (s : State) : Result :=
  eventStep (windowHolds WinUnit.isFetch s)
    (fun s => match windowUnit s with
      | some (.fetch addr n live) => endFetch addr n live s
      | _ => s) s

/-! ## Posted writes (R184, R185) -/

/-- The checks of a WDATA write that is taken, in order (R184). -/
def wdataWriteRefusal (s : State) : Option Status :=
  firstRefusal [(!s.mem.ready, .memNotReady), (memopBusy s, .memopBusy), (outOfZone s s.win.waddr.toNat 1, .outOfZone),
    (zoneLocked s s.win.waddr.toNat 1, .zoneLocked)]

/-- An accepted WDATA write: posted at the tail, the read-ahead discarded, WADDR advanced (R184). -/
def postWrite (v : HW) (s : State) : State :=
  advanceWaddr (discardAhead { s with win.posted := s.win.posted ++ [⟨s.win.waddr, v⟩] })

/-- A WDATA write that has a free place is taken and judged (R184). -/
def takeWrite (v : HW) (s : State) : State := accessUnless (wdataWriteRefusal s) 0x12 (postWrite v) s

/-- WDATA_WRITE: with 8 writes posted the access is stretched, else it is taken (R184). -/
def execWdataWrite (v : HW) (s : State) : Result :=
  hostAccess (fun s =>
    if 8 ≤ s.win.posted.length then { s with win.access := some (.wdataWrite v) } else takeWrite v s) s

/-- The access that waited for posted writes goes on: a write is taken and judged when a place is free, a read fetches
once the buffer has drained (R182, R184). -/
def resumeAccess (s : State) : State :=
  match s.win.access with
  | some (.wdataWrite v) =>
    if s.win.posted.length < 8 then takeWrite v { s with win.access := none } else s
  | some .wdataRead => if s.win.posted = [] then fetchForRead s else s
  | _ => s

/-- A drain grant writes one posted write, which leaves the buffer as its halfword is written; an access that waited for
the freed place, or for the emptied buffer, goes on (R184, R185). -/
def drainWrite (live : Bool) (s : State) (w : PostedWrite) : State :=
  let s := writePosted [w] s
  if live then resumeAccess { s with win.posted := s.win.posted.drop 1 } else s

/-- The drain grant that has `ws` left to write; with none left the unit has ended (Table 9-4). -/
def drainGrant (live : Bool) : List PostedWrite → Option Grant
  | [] => none
  | ws => some (.window (.drain ws live))

/-- A drain grant writes the next of the writes it has left; with the last the grant ends (R185, Table 9-4). -/
def drainNext (live : Bool) (s : State) : List PostedWrite → State
  | [] => freePort s
  | w :: ws => drainWrite live { s with mem.grant := drainGrant live ws } w

/-- POSTED_WRITE_DRAIN: the grant in progress writes the next posted write of its unit, so that a unit of n writes takes n
of these rows, between which other events may come (R184, R185; log entry 10). -/
def execPostedWriteDrain (s : State) : Result :=
  eventStep (windowHolds WinUnit.isDrain s)
    (fun s => match windowUnit s with
      | some (.drain ws live) => drainNext live s ws
      | _ => s) s

/-! ## FILL and COPY (R186, R187) -/

/-- The 32-bit value in two argument registers, low halfword in the first (10.3). -/
def cargPair (s : State) (i : Fin 5) : Nat := (s.win.carg[i.val + 1] ++ s.win.carg[i.val]).toNat

/-- The checks of a FILL, in order (R187). -/
def fillRefusal (s : State) : Option Status :=
  let dst := cargPair s 0
  let len := cargPair s 2
  firstRefusal [(!s.mem.ready, .memNotReady), (memopBusy s, .memopBusy), (s.win.posted != [], .wbufPending),
    (decide (2 ^ 25 ≤ dst) || len == 0, .badArg), (outOfZone s dst len, .outOfZone), (zoneLocked s dst len, .zoneLocked)]

/-- Two ranges of the same length share an address. -/
def rangesOverlap (a b len : Nat) : Bool := decide (a < b + len) && decide (b < a + len)

/-- The checks of a COPY, in order (R187). -/
def copyRefusal (s : State) : Option Status :=
  let src := cargPair s 0
  let dst := cargPair s 2
  let len := cargPair s 4
  firstRefusal [(!s.mem.ready, .memNotReady), (memopBusy s, .memopBusy), (s.win.posted != [], .wbufPending),
    (decide (2 ^ 25 ≤ src) || decide (2 ^ 25 ≤ dst) || len == 0 || rangesOverlap src dst len, .badArg),
    (outOfZone s dst len || outOfZone s src len, .outOfZone), (zoneLocked s dst len, .zoneLocked)]

/-- A burst that a SOFT_RESET left to end is not counted in the MOPCOUNT of a later operation (log entry 12). -/
def uncountOwner : Owner → Owner
  | .live => .live
  | .orphan _ => .orphan false

/-- The grant's burst, if left by a SOFT_RESET, is no longer counted. -/
def uncountGrant : Option Grant → Option Grant
  | some (.window (.fill d n v o)) => some (.window (.fill d n v (uncountOwner o)))
  | some (.window (.copyRead a d n o)) => some (.window (.copyRead a d n (uncountOwner o)))
  | some (.window (.copyWrite d xs o)) => some (.window (.copyWrite d xs (uncountOwner o)))
  | g => g

/-- An accepted FILL or COPY: the read-ahead discarded, MOPCOUNT and CMDRES 0, the engine in its state (R187). -/
def startMemop (op : MemOp) (s : State) : State :=
  let s := acceptCmdWith 0 (discardAhead s)
  { s with win.memop := op, win.mopCount := 0, mem.grant := uncountGrant s.mem.grant
           win.orphan := s.win.orphan.map fun o => { o with counted := false } }

/-- FILL. Its destination, its length and the value of CARG4 are those at the acceptance, and a later write of CARG4 does
not reach its bursts (R187; log entry 23). -/
def execFill (s : State) : Result :=
  command 0x20 (fun s => cmdUnless (fillRefusal s)
    (fun s => startMemop (.fill (cargPair s 0) (cargPair s 2) s.win.carg[4]) s) s) s

/-- COPY (R187). -/
def execCopy (s : State) : Result :=
  command 0x21 (fun s => cmdUnless (copyRefusal s)
    (fun s => startMemop (.copy (cargPair s 0) (cargPair s 2) (cargPair s 4) none) s) s) s

/-- A unit is a burst of the operation in flight. -/
def WinUnit.isLiveBurst : WinUnit → Bool
  | .fill _ _ _ .live | .copyRead _ _ _ .live | .copyWrite _ _ .live => true
  | _ => false

/-- A burst is in progress: a FILL burst's grant, or a COPY burst from its read grant to the end of its write grant
(R186). -/
def burstInProgress (s : State) : Bool :=
  match s.win.memop with
  | .idle => false
  | .copy _ _ _ (some _) => true
  | _ => windowHolds WinUnit.isLiveBurst s

/-- The operation ends CANCELLED by MEMOP_CANCEL, with the count in CMDRES (R186). -/
def cancelMemop (s : State) : State :=
  acceptCmdWith (lowHalf s.win.mopCount) { s with win.memop := .idle, win.mopLast := .cancelled, win.access := none }

/-- MEMOP_CANCEL: refused when idle, at once with no burst in progress, else held until the burst has ended (R186). -/
def execMemopCancel (s : State) : Result :=
  command 0x23 (fun s =>
    if !memopBusy s then refuseCmd .wrongState s
    else if burstInProgress s then { s with win.access := some .cancel }
    else cancelMemop s) s

/-- A write burst of `n` halfwords counts in MOPCOUNT (R186). -/
def countBurst (n : Nat) (s : State) : State := { s with win.mopCount := s.win.mopCount + BitVec.ofNat 32 n }

/-- The end of a write burst of the operation in flight: a held MEMOP_CANCEL ends it CANCELLED; at the full length it is
DONE with MEMOP_DONE (R186, R187). -/
def endLiveBurst (s : State) : State :=
  if s.win.access = some .cancel then cancelMemop s
  else if s.win.mopCount.toNat = s.win.memop.len then
    raise .memopDone { s with win.memop := .idle, win.mopLast := .done }
  else s

/-- What a burst's end does to the engine, by the burst's owner (R187, R191). -/
def endBurst (n : Nat) (o : Owner) (s : State) : State :=
  match o with
  | .live => endLiveBurst (countBurst n s)
  | .orphan counted => if counted then countBurst n s else s

/-- FILL_BURST: the next halfwords of the destination take the value (R187). -/
def endFillBurst (dst n : Nat) (v : HW) (o : Owner) (s : State) : State :=
  endBurst n o (writeHalves dst (List.replicate n v) (freePort s))

/-- FILL_BURST (R187). -/
def execFillBurst (s : State) : Result :=
  eventStep (windowHolds WinUnit.isFill s)
    (fun s => match windowUnit s with
      | some (.fill dst n v o) => endFillBurst dst n v o s
      | _ => s) s

/-- The engine holds what a COPY's read grant has read until its write grant (R187). -/
def holdCopied (data : List HW) (s : State) : State :=
  match s.win.memop with
  | .copy src dst len _ => { s with win.memop := .copy src dst len (some data) }
  | _ => s

/-- COPY_READ_BURST: the next halfwords of the source are read into the engine (R187). -/
def endCopyRead (src dst n : Nat) (o : Owner) (s : State) : State :=
  let (data, s) := readHalves n src (freePort s)
  match o with
  | .live => holdCopied data s
  | .orphan counted => { s with win.orphan := some ⟨dst, data, counted⟩ }

/-- COPY_READ_BURST (R187). -/
def execCopyReadBurst (s : State) : Result :=
  eventStep (windowHolds WinUnit.isCopyRead s)
    (fun s => match windowUnit s with
      | some (.copyRead src dst n o) => endCopyRead src dst n o s
      | _ => s) s

/-- The engine no longer holds the halfwords of the burst just written. -/
def dropCopied (o : Owner) (s : State) : State :=
  match o, s.win.memop with
  | .live, .copy src dst len _ => { s with win.memop := .copy src dst len none }
  | .live, _ => s
  | .orphan _, _ => { s with win.orphan := none }

/-- COPY_WRITE_BURST: the held halfwords are written (R187). -/
def endCopyWrite (dst : Nat) (data : List HW) (o : Owner) (s : State) : State :=
  endBurst data.length o (dropCopied o (writeHalves dst data (freePort s)))

/-- COPY_WRITE_BURST (R187). -/
def execCopyWriteBurst (s : State) : Result :=
  eventStep (windowHolds WinUnit.isCopyWrite s)
    (fun s => match windowUnit s with
      | some (.copyWrite dst data o) => endCopyWrite dst data o s
      | _ => s) s

/-! ## PATCH (R188) -/

/-- The checks of a PATCH, in order (R188). -/
def patchRefusal (s : State) : Option Status :=
  let a := cargPair s 0
  firstRefusal [(!s.mem.ready, .memNotReady), (memopBusy s, .memopBusy), (s.win.posted != [], .wbufPending),
    (decide (2 ^ 25 ≤ a), .badArg), (outOfZone s a 1, .outOfZone), (zoneLocked s a 1, .zoneLocked)]

/-- An accepted PATCH: the read-ahead discarded, one grant requested, the access held until it is complete (R188). -/
def startPatch (s : State) : State :=
  { discardAhead s with win.patch := some ⟨cargPair s 0, s.win.carg[2], s.win.carg[3]⟩, win.access := some .patch }

/-- PATCH (R188). -/
def execPatch (s : State) : Result := command 0x22 (fun s => cmdUnless (patchRefusal s) startPatch s) s

/-- The read-modify-write of a PATCH on memory; the old halfword is answered (R188). -/
def patchMemory (r : PatchReq) (s : State) : HW × State :=
  let (old, s) := readHalf r.addr s
  (old, writeHalves r.addr [old &&& r.andMask ||| r.orMask] s)

/-- PATCH_GRANT: CMDRES takes the old halfword and the held access ends (R188). -/
def endPatch (r : PatchReq) (s : State) : State :=
  let (old, s) := patchMemory r (freePort s)
  acceptCmdWith old { s with win.patch := none, win.access := none }

/-- PATCH_GRANT (R188). -/
def execPatchGrant (s : State) : Result :=
  eventStep (windowHolds WinUnit.isPatch s)
    (fun s => match windowUnit s with
      | some (.patch r) => endPatch r s
      | _ => s) s

/-! ## WADDR and WINCTL (R181) -/

/-- WADDR_WRITE: any 25-bit address, in every state; the read-ahead is discarded (R181). -/
def execWaddrWrite (high : HW) (s : State) : Result :=
  registerAccess (fun s => firstRefusal [(decide (2 ^ 25 ≤ (joined s .waddr high).toNat), .badArg)]) 0x11
    (fun s => discardAhead { s with win.waddr := (joined s .waddr high).setWidth 25 }) s

/-- WINCTL_WRITE: stride 0 or 1; the read-ahead is discarded (R181). -/
def execWinctlWrite (v : HW) (s : State) : Result :=
  registerAccess (fun _ => firstRefusal [(decide (2 ≤ v.toNat), .badArg)]) 0x13
    (fun s => discardAhead { s with win.stride := v.getLsbD 0 }) s

end Sys2Proof.Machine
end

