-- ==== Sys2Proof/Machine/Resets.lean ====
section
/-! DEFINITION. The resets: SOFT_RESET, power-on reset and the RESET_N pin (R16, R17, R79, R127, R128, R148, R149, R158,
R172 to R174, R190, R191, R196, R197). -/

namespace Sys2Proof.Machine

/-! ## Grants cut short -/

/-- What the grant in progress has written when it is ended after `t` halfwords: those stay in the DRAM (R148, R173,
R190). A writer grant has always its last halfword to write, at SOFT_RESET and at the fall of RESET_N alike, while every
other grant may have transferred its whole unit; a PATCH transfers its read, then its write (log entry 10). -/
def partialTransfer (t : Nat) (s : State) : State :=
  match s.mem.grant with
  | some .writer =>
    match s.log.fifo with
    | r :: _ => { s with dram.cells := writeRing s s.dram.cells 0 (r.halfwords.take (min t (r.length - 1))) }
    | [] => s
  | some (.window (.drain ws _)) => writePosted (ws.take t) s
  | some (.window (.fill dst n v _)) => writeHalves dst (List.replicate (min t n) v) s
  | some (.window (.copyWrite dst data _)) => writeHalves dst (data.take t) s
  | some (.window (.patch r)) => if 2 ≤ t then (patchMemory r s).2 else s
  | _ => s

/-! ## SOFT_RESET (R191) -/

/-- A SOFT_RESET ends a writer grant in progress, its record unpublished (R148). -/
def endWriterGrant (t : Nat) (s : State) : State :=
  if writerGranted s then freePort (partialTransfer t s) else s

/-- A burst of the operation in flight becomes one that is left to end, still counted in MOPCOUNT (R191). -/
def orphanOwner : Owner → Owner
  | .live => .orphan true
  | .orphan c => .orphan c

/-- The window's grant in progress runs to the end of its unit after a SOFT_RESET (R191). -/
def orphanGrant : Option Grant → Option Grant
  | some (.window (.drain ws _)) => some (.window (.drain ws false))
  | some (.window (.fetch a n _)) => some (.window (.fetch a n false))
  | some (.window (.fill d n v o)) => some (.window (.fill d n v (orphanOwner o)))
  | some (.window (.copyRead a d n o)) => some (.window (.copyRead a d n (orphanOwner o)))
  | some (.window (.copyWrite d xs o)) => some (.window (.copyWrite d xs (orphanOwner o)))
  | g => g

/-- The write grant still owed by a COPY burst whose read grant has ended and whose write grant has not begun (R186,
R191). -/
def orphanWrite (s : State) : Option OrphanWrite :=
  match s.win.memop with
  | .copy _ dst _ (some data) =>
    if windowHolds WinUnit.isLiveBurst s then s.win.orphan
    else some ⟨dst + s.win.mopCount.toNat, data, true⟩
  | _ => s.win.orphan

/-- SOFT_RESET at the window (R191). -/
def softResetWindow (s : State) : State :=
  { s with
    win.orphan := orphanWrite s
    mem.grant := orphanGrant s.mem.grant
    mem.passover := 0
    win.posted := [], win.ahead := [], win.fetch := none
    win.memop := .idle, win.mopLast := if memopBusy s then .cancelled else s.win.mopLast
    win.cmdstat := .ok, win.cmdres := 0, win.winerr := ⟨.ok, 0⟩ }

/-- SOFT_RESET at the walker, the applier, run control, the result log, the segment table, the ports, the trigger lines
and the event unit (R17, R48, R79, R99, R128, R148, R158, R197). -/
def softResetRun (s : State) : State :=
  let s := requestsClear (applierStop (walkerStop s))
  linesAllOff (parkAll
    { s with
      run.state := .idle, run.cause := .none, run.fault := FaultRecord.cleared, run.drainAborted := false
      app.vcount := 0, app.failcount := 0, app.firstfail := FirstFail.cleared, app.passdone := PassDone.cleared
      log.fifo := [], log.seqno := 0, log.dropcount := 0, log.endProduced := false
      seg.lastrel := 127
      trig.latch := 0
      ev.flags := 0 })

/-- SOFT_RESET (R128, R191). -/
def execSoftReset (t : Nat) (s : State) : Result :=
  command 0x5A (fun s => softResetRun (softResetWindow (endWriterGrant t s))) s

/-! ## Power-on reset and the RESET_N pin -/

/-- POR: every block at its POR values, MSIZE sampled, the contents of pattern memory unknown (R172). The queue of
commands and the level of the RESET_N pin are outside the part (log entry 19). -/
def execPor (msize : BitVec 2) (s : State) : Result :=
  .next { State.porWith msize s.free with resetLow := s.resetLow, pending := s.pending }

/-- The memory controller at the fall of RESET_N (R173): its state, the sampled size, the owed count and REFMISS are
kept, a refresh grant runs to its completion, the rest takes its reset values. -/
def MemCtl.atResetN (m : MemCtl) : MemCtl :=
  { MemCtl.por m.msize with
    ready := m.ready, owed := m.owed, refmiss := m.refmiss
    grant := match m.grant with
      | some .refresh => some .refresh
      | _ => none }

/-- The window at the fall of RESET_N: POR values, but an abandoned FILL or COPY is shown by LAST and MOPCOUNT (R190). -/
def Window.atResetN (w : Window) : Window :=
  if w.memop = .idle then Window.por else { Window.por with mopLast := .abandoned, mopCount := w.mopCount }

/-- The part at the fall of RESET_N, the grant in progress ended after `t` halfwords (R127, R149, R173, R190). -/
def resetN (t : Nat) (s : State) : State :=
  let d := partialTransfer t s
  { State.porWith s.mem.msize s.dram.epoch with
    dram := d.dram, free := d.free, mem := s.mem.atResetN, win := s.win.atResetN, resetLow := true
    pending := s.pending }

/-- RESET_N_ASSERT: the pin goes low (R16, R173, R190). -/
def execResetNAssert (t : Nat) (s : State) : Result := eventStep (!s.resetLow) (resetN t) s

/-- RESET_N_RELEASE: the pin returns high; a controller in INIT begins its sequence from its start (R173, R190). -/
def execResetNRelease (s : State) : Result :=
  eventStep s.resetLow (fun s => { s with resetLow := false, mem.initTicks := 0 }) s

end Sys2Proof.Machine
end

