-- ==== Sys2Proof/Machine/ResultLog.lean ====
section
/-! DEFINITION. The result log's registers, LOG_RESET and the publication of a record (07_the_result_log.md). -/

namespace Sys2Proof.Machine

/-- LOG_RESET: refused while a run is active; both pointers take 0 (R144). -/
def execLogReset (s : State) : Result :=
  command 0x30 (fun s => cmdUnless (if runActive s then some .wrongState else none)
    (fun s => acceptCmd { s with log.wp := 0, log.rp := 0 }) s) s

/-- LOGBASE_WRITE: a changed value sets both pointers to 0 (R137). -/
def execLogbaseWrite (high : HW) (s : State) : Result :=
  registerAccess (fun s => lockedCheck (decide (2 ^ 25 ≤ (joined s .logbase high).toNat)) s) 0x65
    (fun s =>
      let v : Addr := (joined s .logbase high).setWidth 25
      if v = s.log.base then s else { s with log.base := v, log.wp := 0, log.rp := 0 }) s

/-- LOGSIZE is from 64 to 16,777,216 (R137). -/
def logsizeBad (v : Word) : Bool := decide (v.toNat < 64) || decide (16777216 < v.toNat)

/-- LOGSIZE_WRITE: a changed value sets both pointers to 0 (R137). -/
def execLogsizeWrite (high : HW) (s : State) : Result :=
  registerAccess (fun s => lockedCheck (logsizeBad (joined s .logsize high)) s) 0x67
    (fun s =>
      let v : BitVec 25 := (joined s .logsize high).setWidth 25
      if v = s.log.size then s else { s with log.size := v, log.wp := 0, log.rp := 0 }) s

/-- LOGLEVEL_WRITE (R137). -/
def execLoglevelWrite (high : HW) (s : State) : Result :=
  registerAccess (fun s => lockedCheck (decide (16777216 ≤ (joined s .loglevel high).toNat)) s) 0x69
    (fun s => { s with log.level := (joined s .loglevel high).setWidth 24 }) s

/-- The judgement of a LOGRP write: inside the ring, and an advance of at most the occupancy (R143). -/
def logrpBad (s : State) (v : Nat) : Bool :=
  decide (s.log.size.toNat ≤ v)
    || decide (occupancy s < (v + s.log.size.toNat - s.log.rp.toNat) % s.log.size.toNat)

/-- LOGRP_WRITE: in every sequencer state (R143). The arbiter then sees the writer's request, if the new room admits the
head record. -/
def execLogrpWrite (high : HW) (s : State) : Result :=
  registerAccess (fun s => firstRefusal [(logrpBad s (joined s .logrp high).toNat, .badArg)]) 0x6D
    (fun s => { s with log.rp := (joined s .logrp high).setWidth 24 }) s

/-- RECORD_PUBLICATION: a writer grant ends; its head record is in the ring and leaves the FIFO (R140, R141). -/
def execRecordPublication (s : State) : Result :=
  eventStep (writerGranted s)
    (fun s => match s.log.fifo with | r :: rest => publish r rest (freePort s) | [] => freePort s) s

end Sys2Proof.Machine
end

