-- ==== Sys2Proof/Machine/RunCommands.lean ====
section
/-! DEFINITION. The run commands START, ARM, PAUSE, RESUME, STEP, ABORT and CLEAR, and the expiry of the starvation
timer (06_run_control.md). -/

namespace Sys2Proof.Machine

/-- The start checks, in order (R102); ARM also checks the mode of the line that ARMCFG names. -/
def startRefusal (isArm : Bool) (s : State) : Option Status :=
  if s.run.state ≠ .idle then some .wrongState
  else firstRefusal
    [(!s.mem.ready, .memNotReady), (s.win.posted != [], .wbufPending), (memopBusy s, .memopBusy),
     (!rangeInKind s .log s.log.base.toNat s.log.size.toNat, .badLog), (decide (64 ≤ s.seg.startseg.toNat), .badArg),
     (isArm && s.trig.lines[s.run.armcfg].mode != .input, .badArg)]

/-- The entry STARTSEG names; a START or ARM is accepted only when STARTSEG is 0 to 63. -/
def startEntry (s : State) : SegIdx :=
  match linkOf s.seg.startseg with
  | .entry i => i
  | _ => 0

/-- An accepted START: RUNNING and PRIMING, with the run-start indication (R103, R104). -/
def startRun (s : State) : State :=
  let s := clearRun (startEntry s) (acceptCmd s)
  linesOn .outRun { s with run.state := .running, run.cause := .none, app.stream := .priming }

/-- An accepted ARM: ARMED, the applier HELD (R103, R105). -/
def armRun (s : State) : State :=
  let s := clearRun (startEntry s) (acceptCmd s)
  { s with run.state := .armed, run.cause := .none, app.stream := .held }

/-- START (R102 to R104). -/
def execStart (s : State) : Result := command 0x01 (fun s => cmdUnless (startRefusal false s) startRun s) s

/-- ARM (R102, R103, R105). -/
def execArm (s : State) : Result := command 0x02 (fun s => cmdUnless (startRefusal true s) armRun s) s

/-- PAUSE by the sequencer's state (R107). -/
def pauseRun (s : State) : State :=
  match s.run.state with
  | .running =>
    let s := acceptCmd { s with run.stepReq := false }
    if s.app.stream = .streaming then { s with run.pauseHost := true } else enterPaused .host none s
  | .waiting => enterPaused .host (some s.run.cause) (acceptCmd { s with run.stepReq := false })
  | .idle | .armed | .paused | .stopping | .ended | .faulted => refuseCmd .wrongState s

/-- PAUSE (R107). -/
def execPause (s : State) : Result := command 0x03 pauseRun s

/-- The wait in progress begins a new wait period with its remaining count (R116). -/
def restartWaitPeriod (s : State) : State :=
  { s with app.wait := s.app.wait.map fun w => { w with tick := 0, sampled := false } }

/-- What RESUME and STEP do with the pause (R109, R116, R117). A suspended NOT_READY wait whose timer is still kept is
one whose walker has not left STALL_READY since. -/
def resumeRun (s : State) : State :=
  match s.run.suspended with
  | some .notReady =>
    if s.walker.st = .stallReady ∧ s.run.starve.isSome then enterWaiting .notReady s
    else enterPriming { s with run.starve := none }
  | some cause => enterWaiting cause (restartWaitPeriod s)
  | none => enterPriming s

/-- RESUME and STEP are accepted only from PAUSED (R109). -/
def notPaused (s : State) : Option Status := if s.run.state = .paused then none else some .wrongState

/-- RESUME (R109). -/
def execResume (s : State) : Result :=
  command 0x04 (fun s => cmdUnless (notPaused s) (fun s => resumeRun (acceptCmd s)) s) s

/-- STEP: as RESUME, with the step request set first (R109). -/
def execStep (s : State) : Result :=
  command 0x05
    (fun s => cmdUnless (notPaused s) (fun s => resumeRun (acceptCmd { s with run.stepReq := true })) s) s

/-- ABORT by the sequencer's state (R121). -/
def abortRun (s : State) : State :=
  match s.run.state with
  | .armed | .running | .waiting | .paused => stopRun .abort (acceptCmd s)
  | .stopping => if s.run.drainAborted then acceptCmd s else shortenDrain (acceptCmd s)
  | .idle | .ended | .faulted => refuseCmd .wrongState s

/-- ABORT (R121). -/
def execAbort (s : State) : Result := command 0x06 abortRun s

/-- CLEAR by the sequencer's state (R125). -/
def clearEnded (s : State) : State :=
  match s.run.state with
  | .ended | .faulted => acceptCmd { s with run.state := .idle, run.cause := .none }
  | .idle | .armed | .running | .waiting | .paused | .stopping => refuseCmd .wrongState s

/-- CLEAR (R125). -/
def execClear (s : State) : Result := command 0x07 clearEnded s

/-- A NOT_READY wait with a limit is being made (R117). -/
def starvetoRuns (s : State) : Bool :=
  s.run.state == .waiting && s.run.cause == .notReady && s.run.starveto != 0

/-- The position of a STARVE_TIMEOUT: the pending index and the walker's loop pass tag (R117). -/
def starvePosition (s : State) : Tags :=
  match s.walker.pend with
  | some i => entryTags i s.walker.tags.pass
  | none => s.walker.tags

/-- STARVETO_EXPIRY: the run stops with STARVE_TIMEOUT and no TIMEOUT record (R117). -/
def execStarvetoExpiry (s : State) : Result :=
  eventStep (starvetoRuns s) (fun s => stopOnFault .starveTimeout (starvePosition s) s) s

end Sys2Proof.Machine
end

