-- ==== Sys2Proof/Machine/Segments.lean ====
section
/-! DEFINITION. The staging registers and the segment commands (03_the_segment_table.md, R40 to R44). -/

namespace Sys2Proof.Machine

/-- SEGSTAGE_WRITE: in every state, unchecked, every bit stored (R40). -/
def execSegstageWrite (i : Fin 12) (v : HW) (s : State) : Result :=
  registerAccess (fun _ => none) (BitVec.ofNat 7 (0x40 + i.val)) (fun s => { s with seg.stage := s.seg.stage.set i v }) s

/-- CMDRES of a segment command: INUSE and PENDING as they stood when the command was taken (R40). -/
def segFlags (s : State) (n : SegIdx) : HW :=
  BitVec.ofNat 16 ((if inUse s n then 1 else 0)
    + if s.walker.st == .stallReady && s.walker.pend == some n then 2 else 0)

/-- The entry a segment command names, when CARG0 holds 0 to 63 (R40). -/
def cargEntry (s : State) : Option SegIdx :=
  let n := s.win.carg[0].toNat
  if h : n < 64 then some ⟨n, h⟩ else none

/-- A segment command: the index check, the in-use check for a command that changes the entry, then CMDRES and the
command's effect (R40). -/
def segCommand (changes : Bool) (f : SegIdx → State → State) (s : State) : State :=
  match cargEntry s with
  | none => refuseCmd .badArg s
  | some n =>
    if changes && inUse s n then refuseCmd .segInUse s
    else f n (acceptCmdWith (segFlags s n) s)

/-- SEG_WRITE n: staging replaces the entry; a READY copied into the pending entry resumes the walker (R41). -/
def segWriteAt (n : SegIdx) (s : State) : State :=
  let e := s.seg.stage
  let s := { s with seg.entries := s.seg.entries.set n e }
  if segReady e then readyPending n s else s

/-- SEG_WRITE (R41). -/
def execSegWrite (s : State) : Result := command 0x10 (segCommand true segWriteAt) s

/-- SEG_READ (R42). -/
def execSegRead (s : State) : Result :=
  command 0x11 (segCommand false fun n s => { s with seg.stage := s.seg.entries[n] }) s

/-- An entry's READY flag replaced, every other bit kept (R43, R44). -/
def setEntryReady (n : SegIdx) (b : Bool) (s : State) : State :=
  { s with seg.entries := s.seg.entries.set n (segSetReady s.seg.entries[n] b) }

/-- SEG_READY (R43). -/
def execSegReady (s : State) : Result :=
  command 0x12 (segCommand true fun n s => readyPending n (setEntryReady n true s)) s

/-- SEG_UNREADY (R44). -/
def execSegUnready (s : State) : Result :=
  command 0x13 (segCommand true fun n s => setEntryReady n false s) s

end Sys2Proof.Machine
end

