-- ==== Sys2Proof/Machine/TriggerLines.lean ====
section
/-! DEFINITION. Trigger lines: TRGCFG, TRGSTAT and the edges of input lines (08_trigger_lines.md). -/

namespace Sys2Proof.Machine

/-- TRGCFG_WRITE: every line takes its new mode at once, an output line inactive (R151). -/
def execTrgcfgWrite (v : HW) (s : State) : Result :=
  registerAccess (lockedCheck (parseTrgCfg v).isNone) 0x60
    (fun s => match parseTrgCfg v with
      | some lines => { s with trig.lines := lines, trig.active := 0 }
      | none => s) s

/-- TRGSTAT_WRITE: a written 1 clears its latch; bits above the four are refused (R153). -/
def execTrgstatWrite (v : HW) (s : State) : Result :=
  registerAccess (fun _ => firstRefusal [(decide (16 ≤ v.toNat), .badArg)]) 0x61
    (fun s => { s with trig.latch := s.trig.latch &&& ~~~v.extractLsb' 0 4 }) s

/-- An edge is of the kind that EDGE selects (R152). -/
def TrgEdge.selects (e : TrgEdge) (rising : Bool) : Bool :=
  match e with
  | .rise => rising
  | .fall => !rising
  | .both => true

/-- An edge that the trigger unit takes: on a line in mode INPUT, of the selected kind, with RESET_N not low (R152,
R158). -/
def edgeTaken (j : Line) (rising : Bool) (s : State) : Bool :=
  !s.resetLow && s.trig.lines[j].mode == .input && s.trig.lines[j].edge.selects rising

/-- The start edge, or an early one, on the ARMCFG line in ARMED (R105). -/
def armEdge (s : State) : State := if primed s then taking (linesOn .outRun s) else raise .earlyTrigger s

/-- The edge ends the trigger wait being made, if it is on that wait's line (R113). -/
def waitEdge (j : Line) (s : State) : State :=
  match s.app.wait with
  | some w => if w.item.kind = .trigger ∧ w.item.line = j then satisfyWait w s else s
  | none => s

/-- What run control does with an offered edge (Table 8-2). -/
def offerEdge (j : Line) (s : State) : State :=
  if s.run.state = .armed then if j = s.run.armcfg then armEdge s else s
  else if s.run.state = .waiting ∧ s.run.cause = .trigger then waitEdge j s
  else s

/-- TRIGGER_EDGE: the latch and TRG_EDGE are set and the edge is offered to run control (R152, R154). -/
def execTriggerEdge (j : Line) (rising : Bool) (s : State) : Result :=
  eventStep (edgeTaken j rising s)
    (fun s => offerEdge j
      (raise .trgEdge { s with trig.latch := s.trig.latch ||| BitVec.ofNat 4 (2 ^ j.val) })) s

end Sys2Proof.Machine
end

