-- ==== Sys2Proof/Machine/WalkerSteps.lean ====
section
/-! DEFINITION. The walker's steps, each taken whole while the walker is WALKING (R56). -/

namespace Sys2Proof.Machine

/-- The walker is WALKING with a given kind of step next. -/
def walkerDue (kind : WalkStep → Bool) (s : State) : Bool := s.walker.st == .walking && kind s.walker.next

/-- An arrival is the next step. -/
def WalkStep.isArrive : WalkStep → Bool | .arrive .. => true | _ => false

/-- WALKER_ARRIVAL (R57, R59, R60). -/
def execWalkerArrival (s : State) : Result :=
  eventStep (walkerDue WalkStep.isArrive s)
    (fun s => match s.walker.next with
      | .arrive i loopBack => walkerArrive i loopBack s
      | _ => s) s

/-- WAIT_ITEM_PUSH (R61). -/
def execWaitItemPush (s : State) : Result :=
  eventStep (walkerDue (· == .pushWait) s && s.walker.cur.isSome)
    (fun s => match s.walker.cur with
      | some c => pushWaitItem c s
      | none => s) s

/-- The next record's header lies in no enabled VECTOR zone: the walker requests no grant (R63). -/
def headerOutside (s : State) : Bool := !rangeInKind s .vector s.walker.fetchAddr 1

/-- A record fetch is the walker's next step. -/
def fetchDue (s : State) : Bool := walkerDue (· == .fetch) s && s.walker.cur.isSome

/-- The walker holds the port. -/
def walkerHolds (s : State) : Bool := s.mem.grant == some (.walker true) || s.mem.grant == some (.walker false)

/-- A RECORD_FETCH can occur: the walker's next record has its header outside every VECTOR zone and needs no grant, or
the walker holds the port. -/
def recordFetchOccurs (s : State) : Bool := fetchDue s && headerOutside s || walkerHolds s

/-- RECORD_FETCH: FETCH_ZONE without a grant for a header outside every VECTOR zone; else the end of the walker's grant,
with the record pushed, or discarded when the walker stopped during the grant (R62, R63, R78). Where both a FETCH_ZONE
of a new walk and the end of a discarded grant can come, the row is the FETCH_ZONE (log entry 24). -/
def recordFetch (s : State) : State :=
  if fetchDue s && headerOutside s then pushFault .fetchZone s.walker.tags s
  else if s.mem.grant = some (.walker true) ∧ fetchDue s then
    match s.walker.cur with
    | some c => fetchRecord c.img (freePort s)
    | none => s
  else freePort s

/-- RECORD_FETCH (R62 to R64). -/
def execRecordFetch (s : State) : Result := eventStep (recordFetchOccurs s) recordFetch s

/-- A leaving is the next step, through NEXT or through ALT. -/
def WalkStep.isLeave : WalkStep → Bool | .leave | .leaveAlt => true | _ => false

/-- WALKER_LEAVING: normally after the last record (R65 to R69), or through ALT after a timed-out SKIP wait (R76). -/
def execWalkerLeaving (s : State) : Result :=
  eventStep (walkerDue WalkStep.isLeave s && s.walker.cur.isSome)
    (fun s => match s.walker.cur with
      | some c => if s.walker.next = .leaveAlt then leaveThroughAlt c s else leaveNormally c s
      | none => s) s

end Sys2Proof.Machine
end

