-- ==== Sys2Proof/Machine/Registers.lean ====
section
/-! DEFINITION. The value each register read returns (12_layouts.md, Table 12-1; R175). Reads of WDATA are the row
WDATA_READ and have no value here; every other read has no effect but the capture of a pair's low read (R178). -/

namespace Sys2Proof.Machine

/-- A Bool as a bit. -/
def bit (b : Bool) : Nat := if b then 1 else 0

/-- The 32-bit value a pair's register holds (10.2); narrower fields read 0 in their high bits. -/
def pairValue (s : State) : Pair → Word
  | .vcount => s.app.vcount
  | .failcount => s.app.failcount
  | .dropcount => s.log.dropcount
  | .logseq => s.log.seqno
  | .ffvnum => s.app.firstfail.vnum
  | .logbase => s.log.base.setWidth 32
  | .logsize => s.log.size.setWidth 32
  | .loglevel => s.log.level.setWidth 32
  | .logwp => s.log.wp.setWidth 32
  | .logrp => s.log.rp.setWidth 32
  | .zbase => s.mem.zones[s.mem.zonesel].base.setWidth 32
  | .zlimit => s.mem.zones[s.mem.zonesel].limit.setWidth 32
  | .waddr => s.win.waddr.setWidth 32
  | .mopcount => s.win.mopCount

/-- SEQSTATE (R101, Table 12-2). -/
def seqstateValue (s : State) : HW :=
  BitVec.ofNat 16 (s.run.state.code + 8 * s.run.cause.code
    + 128 * bit (s.run.state == .running && s.app.stream == .priming)
    + 256 * bit (s.run.state == .paused && s.run.suspended.isSome)
    + 512 * s.walker.st.code + 4096 * bit s.run.drainAborted)

/-- WALKSTAT (R54): PENDING is the pending index in STALL_READY and 127 otherwise. -/
def walkstatValue (s : State) : HW :=
  let pending := match s.walker.st, s.walker.pend with
    | .stallReady, some i => i.val
    | _, _ => 127
  BitVec.ofNat 16 (s.queue.length + 16 * s.walker.stack.length + 256 * pending)

/-- LOGSTAT (R145). -/
def logstatValue (s : State) : HW :=
  BitVec.ofNat 16 (s.log.fifo.length + 32 * (writerState s).code + 128 * bit (s.run.state == .stopping))

/-- MEMSTAT (R171). -/
def memstatValue (s : State) : HW :=
  BitVec.ofNat 16 (bit s.mem.ready + 2 * s.mem.msize.toNat + 8 * s.mem.owed + 128 * bit s.mem.refmiss
    + 256 * s.mem.passover + 8192 * grantCode s.mem.grant)

/-- MOPSTAT (R186). -/
def mopstatValue (s : State) : HW :=
  BitVec.ofNat 16 (s.win.memop.code + 4 * s.win.mopLast.code + 16 * s.win.posted.length)

/-- WINERR (R177). -/
def winerrValue (s : State) : HW := BitVec.ofNat 16 (s.win.winerr.code.code + 256 * s.win.winerr.offset.toNat)

/-- SEGRDYj: bit k is the READY flag of entry 16j + k (R49). -/
def segrdyValue (s : State) (j : Nat) : HW :=
  BitVec.ofNat 16 (((List.range 16).map fun k =>
    match s.seg.entries.toList[16 * j + k]? with
    | some e => if segReady e then 2 ^ k else 0
    | none => 0).sum)

/-- PORTCFG of a port (R1). -/
def portcfgValue (c : PortCfg) : HW :=
  BitVec.ofNat 16 (bit c.enabled + 2 * c.width.code + 8 * c.kind.code + 64 * c.park.code)

/-- TRGCFG (R150). -/
def trgcfgValue (s : State) : HW :=
  BitVec.ofNat 16 ((all4.map fun j =>
    (s.trig.lines[j].mode.code + 4 * s.trig.lines[j].edge.code) * 2 ^ (4 * j.val)).sum)

/-- TRGLVL: the driven level of an output line, the board's level of an input line (R152). -/
def trglvlValue (s : State) (trgPads : BitVec 4) : HW :=
  BitVec.ofNat 16 ((all4.map fun j =>
    let level := if s.trig.lines[j].mode = .input then trgPads.getLsbD j.val else s.trig.active.getLsbD j.val
    bit level * 2 ^ j.val).sum)

/-- BPnCTL (R110). -/
def bpctlValue (b : Breakpoint) : HW :=
  BitVec.ofNat 16 (bit b.enable + 2 * bit b.segen + 4 * bit b.offen + 8 * bit b.iteren)

/-- A register of a breakpoint unit by its place in the unit. -/
def bpValue (b : Breakpoint) (k : Nat) : HW :=
  match k with
  | 0 => bpctlValue b
  | 1 => b.seg.setWidth 16
  | 2 => b.off
  | _ => b.iter.setWidth 16

/-- ZATTR of a zone (R161). -/
def zattrValue (z : Zone) : HW := BitVec.ofNat 16 (z.kind.code + 4 * bit z.wrun + 8 * bit z.enabled)

/-- EVCTL (R193). -/
def evctlValue (s : State) : HW := BitVec.ofNat 16 (bit s.ev.master + 2 * bit (irqAsserted s))

/-- The pairs in the order of their read captures. -/
def allPairs : List Pair :=
  [.vcount, .failcount, .dropcount, .logseq, .ffvnum, .logbase, .logsize, .loglevel, .logwp, .logrp, .zbase, .zlimit,
   .waddr, .mopcount]

/-- A read of either halfword of a pair: the low half of the value as it stands, the high half of the pair's read
capture (R178). -/
def readPair (s : State) (offset : BitVec 7) : Option HW :=
  allPairs.findSome? fun p =>
    if offset = pairOffset p then some (lowHalf (pairValue s p))
    else if offset = pairOffset p + 1 then some (highHalf s.win.captures[pairIndex p])
    else none

/-- A read of a register among the window's and run control's: offsets 0x00 to 0x3F that are no pair. -/
def readLow (s : State) (n : Nat) : HW :=
  if n = 0x00 then 0x3C40#16
  else if n = 0x01 then 0x0100#16
  else if n = 0x02 then s.win.cmd
  else if n = 0x03 then BitVec.ofNat 16 s.win.cmdstat.code
  else if n = 0x04 then s.win.cmdres
  else if n < 0x0B then s.win.carg.toList.getD (n - 5) 0
  else if n = 0x0B then winerrValue s
  else if n = 0x0C then s.ev.flags.setWidth 16
  else if n = 0x0D then s.ev.enables.setWidth 16
  else if n = 0x0E then evctlValue s
  else if n = 0x13 then BitVec.ofNat 16 (bit s.win.stride)
  else if n = 0x14 then mopstatValue s
  else if n = 0x18 then seqstateValue s
  else if n = 0x19 then walkstatValue s
  else if n = 0x1A then BitVec.ofNat 16 s.run.fault.code.code
  else if n = 0x1B then s.run.fault.pos.seg.setWidth 16
  else if n = 0x1C then s.run.fault.pos.off
  else if n = 0x1D then s.run.fault.pos.iter.setWidth 16
  else if n = 0x1E then s.run.fault.pos.pass
  else if n = 0x24 then s.app.firstfail.tags.seg.setWidth 16
  else if n = 0x25 then s.app.firstfail.tags.off
  else if n = 0x26 then s.app.firstfail.tags.iter.setWidth 16
  else if n = 0x27 then s.app.firstfail.tags.pass
  else if n = 0x2A then s.app.passdone.seg.setWidth 16
  else if n = 0x2B then s.app.passdone.iter.setWidth 16
  else if n = 0x2C then s.app.passdone.pass
  else if n = 0x30 then s.seg.startseg.setWidth 16
  else if n = 0x31 then BitVec.ofNat 16 s.run.armcfg.val
  else if n = 0x32 then s.run.starveto
  else if n = 0x33 then BitVec.ofNat 16 (bit s.run.failPause)
  else if n = 0x34 then s.run.faillimit
  else if 0x38 ≤ n ∧ n < 0x3C then bpValue s.run.bp[0] (n - 0x38)
  else if 0x3C ≤ n ∧ n < 0x40 then bpValue s.run.bp[1] (n - 0x3C)
  else 0

/-- A read of a register at offsets 0x40 to 0x7F that is no pair. -/
def readHigh (s : State) (pads : Vector HW 4) (trgPads : BitVec 4) (n : Nat) : HW :=
  if n < 0x4C then s.seg.stage.toList.getD (n - 0x40) 0
  else if n < 0x50 then segrdyValue s (n - 0x4C)
  else if n = 0x50 then s.seg.lastrel.setWidth 16
  else if 0x54 ≤ n ∧ n < 0x58 then (s.ports.cfg.toList.map portcfgValue).getD (n - 0x54) 0
  else if 0x58 ≤ n ∧ n < 0x5C then pads.toList.getD (n - 0x58) 0
  else if n = 0x5C then BitVec.ofNat 16 s.tsets.sel.val
  else if n = 0x5D then s.tsets.sets[s.tsets.sel].per
  else if n = 0x5E then s.tsets.sets[s.tsets.sel].drv
  else if n = 0x5F then s.tsets.sets[s.tsets.sel].stb
  else if n = 0x60 then trgcfgValue s
  else if n = 0x61 then s.trig.latch.setWidth 16
  else if n = 0x62 then trglvlValue s trgPads
  else if n = 0x72 then logstatValue s
  else if n = 0x74 then BitVec.ofNat 16 s.mem.zonesel.val
  else if n = 0x79 then zattrValue s.mem.zones[s.mem.zonesel]
  else if n = 0x7A then s.mem.refint
  else if n = 0x7B then memstatValue s
  else 0

/-- The value a read of an offset returns, with the levels the board presents at the port pads and the trigger pads
(R8, R152). There is none while RESET_N is low, when the window does not respond and PINVAL cannot be read (R8, R190),
and none for WDATA, whose read is a row of its own. An unassigned offset reads 0 (R177). -/
def readRegister (s : State) (pads : Vector HW 4) (trgPads : BitVec 4) (offset : BitVec 7) : Option HW :=
  if s.resetLow ∨ offset = 0x12 then none
  else match readPair s offset with
    | some v => some v
    | none =>
      if offset.toNat < 0x40 then some (readLow s offset.toNat) else some (readHigh s pads trgPads offset.toNat)

end Sys2Proof.Machine
end

