-- ==== Sys2Proof/WellFormed.lean ====
section
/-! DEFINITION. Which terms of Instr are commands of the part: two rows are named by what other rows do not cover, so
their operand is checked here. Every other operand is valid by its type. -/

namespace Sys2Proof

/-- The assigned command codes of Table 12-6. -/
def assignedCodes : List HW :=
  [0x01, 0x02, 0x03, 0x04, 0x05, 0x06, 0x07, 0x10, 0x11, 0x12, 0x13, 0x20, 0x21, 0x22, 0x23, 0x30, 0x5A]

/-- The offsets whose writes are rows of their own: CMD, the written registers of Table 12-1 but CARG0 to CARG5, and
the low halfwords of the seven written pairs. The other offsets are those of REGISTER_WRITE. -/
def ownedOffsets : List (BitVec 7) :=
  [0x02, 0x0C, 0x0D, 0x0E, 0x10, 0x11, 0x12, 0x13, 0x30, 0x31, 0x32, 0x33, 0x34,
   0x38, 0x39, 0x3A, 0x3B, 0x3C, 0x3D, 0x3E, 0x3F] ++
  [0x40, 0x41, 0x42, 0x43, 0x44, 0x45, 0x46, 0x47, 0x48, 0x49, 0x4A, 0x4B, 0x54, 0x55, 0x56, 0x57] ++
  [0x5C, 0x5D, 0x5E, 0x5F, 0x60, 0x61, 0x64, 0x65, 0x66, 0x67, 0x68, 0x69, 0x6C, 0x6D,
   0x74, 0x75, 0x76, 0x77, 0x78, 0x79, 0x7A, 0x7B]

/-- ILLEGAL_CMD is a write of CMD with an unassigned code (R180); REGISTER_WRITE is a write to an offset that no other
row covers (R177). -/
def Instr.wellFormed : Instr → Bool
  | .illegalCmd code => !assignedCodes.contains code
  | .registerWrite offset _ => !ownedOffsets.contains offset
  | _ => true

end Sys2Proof
end

