-- ==== Sys2Proof/Machine/WindowRegs.lean ====
section
/-! DEFINITION. The window's own registers: pairs, the event unit's three registers, the argument registers, and the
refusals of unassigned codes and offsets (R177 to R180, R193, R195). -/

namespace Sys2Proof.Machine

/-- ILLEGAL_CMD: an unassigned code is refused (R180). A term that names an assigned code is not this row (log entry
20). -/
def execIllegalCmd (code : HW) (s : State) : Result :=
  if assignedCodes.contains code then .next s else command code (refuseCmd .illegalCmd) s

/-- PAIR_LOW_READ: the whole value is captured, and its low halfword answered (R178). -/
def execPairLowRead (p : Pair) (s : State) : Result :=
  hostAccess (fun s =>
    { s with win.captures := s.win.captures.set (pairIndex p) (pairValue s p)
             win.busData := lowHalf (pairValue s p) }) s

/-- PAIR_LOW_WRITE: stored in the pair's write holding, unchecked; refused for a read-only pair (R179). -/
def execPairLowWrite (p : Pair) (v : HW) (s : State) : Result :=
  registerAccess (fun _ => firstRefusal [(pairReadOnly p, .noReg)]) (pairOffset p)
    (fun s => { s with win.holdings := s.win.holdings.set (pairIndex p) v }) s

/-- A bit above the fourteen flag positions is 1 (R193, R195). -/
def aboveFlags (v : HW) : Bool := decide (2 ^ 14 ≤ v.toNat)

/-- EVFLAG_WRITE: a written 1 clears its flag (R195). -/
def execEvflagWrite (v : HW) (s : State) : Result :=
  registerAccess (fun _ => firstRefusal [(aboveFlags v, .badArg)]) 0x0C
    (fun s => { s with ev.flags := s.ev.flags &&& ~~~v.extractLsb' 0 14 }) s

/-- EVENABLE_WRITE: all fourteen enables replaced at once (R193). -/
def execEvenableWrite (v : HW) (s : State) : Result :=
  registerAccess (fun _ => firstRefusal [(aboveFlags v, .badArg)]) 0x0D
    (fun s => { s with ev.enables := v.extractLsb' 0 14 }) s

/-- EVCTL_WRITE: MASTER takes the written value, ASSERTED is ignored (R193). -/
def execEvctlWrite (v : HW) (s : State) : Result :=
  registerAccess (fun _ => firstRefusal [(decide (4 ≤ v.toNat), .badArg)]) 0x0E
    (fun s => { s with ev.master := v.getLsbD 0 }) s

/-- The argument register at an offset, CARG0 at 0x05 to CARG5 at 0x0A. -/
def cargAt (offset : BitVec 7) : Option (Fin 6) :=
  if h : 5 ≤ offset.toNat ∧ offset.toNat < 11 then some ⟨offset.toNat - 5, by omega⟩ else none

/-- REGISTER_WRITE: CARG0 to CARG5 store any halfword (R180); a read-only register or an unassigned offset is refused
with NO_REG (R177). A term that names another row's register is not this row (log entry 20). -/
def execRegisterWrite (offset : BitVec 7) (v : HW) (s : State) : Result :=
  if ownedOffsets.contains offset then .next s
  else registerAccess (fun _ => firstRefusal [((cargAt offset).isNone, .noReg)]) offset
    (fun s => match cargAt offset with
      | some i => { s with win.carg := s.win.carg.set i v }
      | none => s) s

end Sys2Proof.Machine
end

