-- ==== Sys2Proof/Machine/Dispatch.lean ====
section
/-! DEFINITION. The one table from commands to their meanings. -/

namespace Sys2Proof.Machine

/-- The effect of a command on everything but the queue of pending commands. -/
def exec (i : Instr) (s : State) : Host.Outcome State Fault Refusal :=
  match i with
  | .start => Sys2Proof.Machine.execStart s
  | .arm => Sys2Proof.Machine.execArm s
  | .pause => Sys2Proof.Machine.execPause s
  | .resume => Sys2Proof.Machine.execResume s
  | .step => Sys2Proof.Machine.execStep s
  | .abort => Sys2Proof.Machine.execAbort s
  | .clear => Sys2Proof.Machine.execClear s
  | .segWrite => Sys2Proof.Machine.execSegWrite s
  | .segRead => Sys2Proof.Machine.execSegRead s
  | .segReady => Sys2Proof.Machine.execSegReady s
  | .segUnready => Sys2Proof.Machine.execSegUnready s
  | .logReset => Sys2Proof.Machine.execLogReset s
  | .fill => Sys2Proof.Machine.execFill s
  | .copy => Sys2Proof.Machine.execCopy s
  | .patch => Sys2Proof.Machine.execPatch s
  | .memopCancel => Sys2Proof.Machine.execMemopCancel s
  | .softReset transferred => Sys2Proof.Machine.execSoftReset transferred s
  | .illegalCmd code => Sys2Proof.Machine.execIllegalCmd code s
  | .portcfgWrite port value => Sys2Proof.Machine.execPortcfgWrite port value s
  | .tsetselWrite value => Sys2Proof.Machine.execTsetselWrite value s
  | .tsetValueWrite field value => Sys2Proof.Machine.execTsetValueWrite field value s
  | .startsegWrite value => Sys2Proof.Machine.execStartsegWrite value s
  | .armcfgWrite value => Sys2Proof.Machine.execArmcfgWrite value s
  | .starvetoWrite value => Sys2Proof.Machine.execStarvetoWrite value s
  | .failpolicyWrite value => Sys2Proof.Machine.execFailpolicyWrite value s
  | .faillimitWrite value => Sys2Proof.Machine.execFaillimitWrite value s
  | .breakpointWrite bpUnit reg value => Sys2Proof.Machine.execBreakpointWrite bpUnit reg value s
  | .segstageWrite index value => Sys2Proof.Machine.execSegstageWrite index value s
  | .logbaseWrite high => Sys2Proof.Machine.execLogbaseWrite high s
  | .logsizeWrite high => Sys2Proof.Machine.execLogsizeWrite high s
  | .loglevelWrite high => Sys2Proof.Machine.execLoglevelWrite high s
  | .logrpWrite high => Sys2Proof.Machine.execLogrpWrite high s
  | .trgcfgWrite value => Sys2Proof.Machine.execTrgcfgWrite value s
  | .trgstatWrite value => Sys2Proof.Machine.execTrgstatWrite value s
  | .zoneselWrite value => Sys2Proof.Machine.execZoneselWrite value s
  | .zoneDescriptorWrite reg value => Sys2Proof.Machine.execZoneDescriptorWrite reg value s
  | .refintWrite value => Sys2Proof.Machine.execRefintWrite value s
  | .memstatWrite value => Sys2Proof.Machine.execMemstatWrite value s
  | .waddrWrite high => Sys2Proof.Machine.execWaddrWrite high s
  | .winctlWrite value => Sys2Proof.Machine.execWinctlWrite value s
  | .wdataRead => Sys2Proof.Machine.execWdataRead s
  | .wdataWrite value => Sys2Proof.Machine.execWdataWrite value s
  | .pairLowRead pair => Sys2Proof.Machine.execPairLowRead pair s
  | .pairLowWrite pair value => Sys2Proof.Machine.execPairLowWrite pair value s
  | .evflagWrite value => Sys2Proof.Machine.execEvflagWrite value s
  | .evenableWrite value => Sys2Proof.Machine.execEvenableWrite value s
  | .evctlWrite value => Sys2Proof.Machine.execEvctlWrite value s
  | .registerWrite offset value => Sys2Proof.Machine.execRegisterWrite offset value s
  | .walkerArrival => Sys2Proof.Machine.execWalkerArrival s
  | .waitItemPush => Sys2Proof.Machine.execWaitItemPush s
  | .recordFetch => Sys2Proof.Machine.execRecordFetch s
  | .walkerLeaving => Sys2Proof.Machine.execWalkerLeaving s
  | .streamBegin => Sys2Proof.Machine.execStreamBegin s
  | .periodEnd => Sys2Proof.Machine.execPeriodEnd s
  | .driveEdge => Sys2Proof.Machine.execDriveEdge s
  | .strobe pads => Sys2Proof.Machine.execStrobe pads s
  | .matchSample pads => Sys2Proof.Machine.execMatchSample pads s
  | .waitPeriodEnd => Sys2Proof.Machine.execWaitPeriodEnd s
  | .starvetoExpiry => Sys2Proof.Machine.execStarvetoExpiry s
  | .triggerEdge line rising => Sys2Proof.Machine.execTriggerEdge line rising s
  | .recordPublication => Sys2Proof.Machine.execRecordPublication s
  | .refreshTimerExpiry => Sys2Proof.Machine.execRefreshTimerExpiry s
  | .refreshCompletion => Sys2Proof.Machine.execRefreshCompletion s
  | .memInitEnd => Sys2Proof.Machine.execMemInitEnd s
  | .postedWriteDrain => Sys2Proof.Machine.execPostedWriteDrain s
  | .readAheadFetch => Sys2Proof.Machine.execReadAheadFetch s
  | .fillBurst => Sys2Proof.Machine.execFillBurst s
  | .copyReadBurst => Sys2Proof.Machine.execCopyReadBurst s
  | .copyWriteBurst => Sys2Proof.Machine.execCopyWriteBurst s
  | .patchGrant => Sys2Proof.Machine.execPatchGrant s
  | .por msize => Sys2Proof.Machine.execPor msize s
  | .resetNAssert transferred => Sys2Proof.Machine.execResetNAssert transferred s
  | .resetNRelease => Sys2Proof.Machine.execResetNRelease s

end Sys2Proof.Machine
end

