-- ==== Sys2Proof/Machine/Time.lean ====
section
/-! DEFINITION. The passage of time: what one tick of TCLK does to the counters the spec gives the part (R88, R112, R117,
R160, R165). A machine with no command pending lets a tick pass, unless a timed event is due (log entry 5). -/

namespace Sys2Proof.Machine

/-- An event of the current period is due: its drive edge, its strobe or its end (R88). -/
def periodEventDue (p : Period) : Bool :=
  (!p.driven && decide (p.vec.timing.drv.toNat ≤ p.tick)) || (!p.strobed && decide (p.vec.timing.stb.toNat ≤ p.tick))
    || decide (p.vec.timing.per.toNat ≤ p.tick)

/-- An event of the current wait period is due: a MATCH wait's sample, or the period's end (R112, R114). -/
def waitEventDue (w : WaitProgress) : Bool :=
  (sampleDue w && decide (w.item.timing.stb.toNat ≤ w.tick)) || decide (w.item.timing.per.toNat ≤ w.tick)

/-- The starvation timer has reached STARVETO × 65536 ticks (R117). -/
def starveDue (s : State) : Bool :=
  starvetoRuns s && (match s.run.starve with
    | some n => decide (s.run.starveto.toNat * 65536 ≤ n)
    | none => false)

/-- The refresh timer has ended its interval (R165). -/
def refreshDue (s : State) : Bool := s.mem.ready && decide (s.mem.refint.toNat ≤ s.mem.refTimer)

/-- Some timed event is due at this tick. -/
def timedEventDue (s : State) : Bool :=
  periodIs periodEventDue s || waitIs waitEventDue s || starveDue s || refreshDue s

/-- The tick within the current period. -/
def tickPeriod (s : State) : State :=
  { s with app.period := s.app.period.map fun p => { p with tick := p.tick + 1 } }

/-- The tick within the wait period, while the wait is being made (R112, R116). -/
def tickWait (s : State) : State :=
  if waitIs (fun _ => true) s then
    { s with app.wait := s.app.wait.map fun w => { w with tick := w.tick + 1 } }
  else s

/-- The starvation timer counts while WAITING(NOT_READY); it stops and keeps its count under a pause (R117). -/
def tickStarve (s : State) : State :=
  if s.run.state = .waiting ∧ s.run.cause = .notReady then
    { s with run.starve := s.run.starve.map (· + 1) }
  else s

/-- The refresh timer counts in READY; in INIT the settling interval of 40,000 ticks counts, unless RESET_N is low
(R160, R165, R173). -/
def tickMemory (s : State) : State :=
  if s.mem.ready then { s with mem.refTimer := s.mem.refTimer + 1 }
  else if s.resetLow then s
  else { s with mem.initTicks := min 40000 (s.mem.initTicks + 1) }

/-- One tick of TCLK; time waits for a timed event that is due. -/
def tick (s : State) : State :=
  if timedEventDue s then s else tickMemory (tickStarve (tickWait (tickPeriod s)))

end Sys2Proof.Machine
end

