-- ==== Sys2Proof/Safety.lean ====
section
/-! DEFINITION. The safe states: the bounds and the agreements between blocks that the manual says hold at every moment.
Each is written so that one step keeps it from every state that has it, not only from reachable ones. -/

namespace Sys2Proof.Machine

/-! ## Bounds -/

/-- The known contents of pattern memory are in their canonical form. -/
def MemoryCanonical (s : State) : Prop := s.dram.cells.wf = true

/-- The bounded counts and buffers: at most 8 refreshes owed (R166), 16 grants passed over (R170), 16 records in the fail
FIFO (R129), 4 loops open (R55), 8 writes posted (R185), and 4 halfwords read ahead, in a fetch requested or granted too
(R183). What a drain grant has left to write is the oldest of the buffer (R185). -/
def CountsInRange (s : State) : Prop :=
  s.mem.owed ≤ 8 ∧ s.mem.passover ≤ 16 ∧ s.log.fifo.length ≤ 16 ∧ s.walker.stack.length ≤ 4 ∧
  s.win.posted.length ≤ 8 ∧ s.win.ahead.length ≤ 4 ∧ (∀ f ∈ s.win.fetch, f.n ≤ 4) ∧
  (∀ a n live, s.mem.grant = some (.window (.fetch a n live)) → n ≤ 4) ∧
  ∀ ws, s.mem.grant = some (.window (.drain ws true)) → ws <+: s.win.posted

/-- A WAIT item with TOACT = SKIP. -/
def Item.isSkipWait : Item → Bool
  | .wait w _ => w.skip
  | _ => false

/-- The wait in progress, if there is one, has TOACT = SKIP. -/
def skipWaitHeld (s : State) : Bool :=
  match s.app.wait with
  | some w => w.item.skip
  | none => false

/-- The prefetch queue holds at most 8 items, with a free place whenever the walker is WALKING or about to walk on from
STALL_READY (R70, R72). Behind a SKIP wait the walker is in STALL_WAIT and nothing follows the WAIT item (R61): the item
is the queue's last, or it has been taken and the queue is empty. -/
def QueueBounded (s : State) : Prop :=
  s.queue.length ≤ 8 ∧
  (s.walker.st = .walking ∨ s.walker.st = .stallReady → s.queue.length < 8) ∧
  (s.walker.st ≠ .stallWait → s.queue.any Item.isSkipWait = false ∧ skipWaitHeld s = false) ∧
  (s.walker.st = .stallWait →
    (s.queue = [] ∧ skipWaitHeld s = true) ∨
    (skipWaitHeld s = false ∧
      ∃ front w t, s.queue = front ++ [.wait w t] ∧ w.skip = true ∧ front.any Item.isSkipWait = false))

/-- Two zones that are both enabled share no address, and no enabled zone is empty or extends beyond the DRAM (R162,
R164). -/
def ZonesDisjoint (s : State) : Prop :=
  (∀ i : Fin 8, s.mem.zones[i].enabled = true →
    s.mem.zones[i].base.toNat ≤ s.mem.zones[i].limit.toNat ∧ s.mem.zones[i].limit.toNat < dramSize s) ∧
  ∀ i j : Fin 8, i ≠ j → s.mem.zones[i].enabled = true → s.mem.zones[j].enabled = true →
    s.mem.zones[i].overlaps s.mem.zones[j] = false

/-- LOGSIZE is in its range and both ring pointers lie inside the ring (R137, R138). -/
def RingInRange (s : State) : Prop :=
  64 ≤ s.log.size.toNat ∧ s.log.size.toNat ≤ 16777216 ∧ s.log.wp.toNat < s.log.size.toNat ∧
  s.log.rp.toNat < s.log.size.toNat

/-! ## Agreements between blocks -/

/-- The sequencer states in which nothing plays: every state but ARMED, RUNNING, WAITING and PAUSED. -/
def SeqState.atRest : SeqState → Bool
  | .idle | .stopping | .ended | .faulted => true
  | .armed | .running | .waiting | .paused => false

/-- In IDLE, STOPPING, ENDED and FAULTED the walker is STOPPED with its loop stack empty, the queue is empty and the
applier is HELD with no vector and no wait (R55, R78, R81, R99). -/
def RestsWhenStopped (s : State) : Prop :=
  s.run.state.atRest = true →
    s.walker = Walker.stoppedState ∧ s.queue = [] ∧ s.app.stream = .held ∧ s.app.period = none ∧ s.app.wait = none

/-- The ports that a decoded vector names are enabled (R27 check 3). -/
def portsEnabled (s : State) (v : DecodedVector) : Prop :=
  ∀ p : Port, (v.parts[p]).isSome = true → s.ports.cfg[p].enabled = true

/-- No pin of a port in standby is driven (R3): the pins of a standby port are RECEIVE, and no vector that is queued or
being played names one. -/
def StandbyPinsReceive (s : State) : Prop :=
  RestsWhenStopped s ∧
  (∀ p : Port, s.ports.cfg[p].enabled = false → s.ports.pins[p].dir = 0) ∧
  (∀ p ∈ s.app.period, portsEnabled s p.vec) ∧
  ∀ v t eop, Item.vector v t eop ∈ s.queue → portsEnabled s v

/-- FAULTCODE is not zero in FAULTED, nor in STOPPING(FAULT), and no FAULT item carries the code 0 (R123). -/
def FaultedOnlyWithCode (s : State) : Prop :=
  (s.run.state = .faulted → s.run.fault.code ≠ .none) ∧
  (s.run.state = .stopping → s.run.cause = .fault → s.run.fault.code ≠ .none) ∧
  ∀ t, Item.fault .none t ∉ s.queue

/-- An END record of the drain in the FIFO is its only record, and it is there in STOPPING alone (R136, R146). -/
def EndRecordAlone (s : State) : Prop :=
  ∀ r ∈ s.log.fifo, r.kind = .endRun → s.run.state = .stopping ∧ s.log.fifo = [r]

/-- A record being written is the head of the FIFO and fits the room of the ring, so that its publication does not pass
LOGRP (R138, R139). For this the FIFO must be empty while no run is active (R144), and a drain that an ABORT has shortened
must hold at most the record being written (R147). -/
def WriterHasRoom (s : State) : Prop :=
  RestsWhenStopped s ∧ RingInRange s ∧ EndRecordAlone s ∧
  (runActive s = false → s.log.fifo = []) ∧
  (s.run.state.atRest = false → s.run.drainAborted = false) ∧
  (s.run.state = .stopping → s.run.drainAborted = true → s.mem.grant = some .writer ∧ s.log.fifo.length = 1) ∧
  (s.mem.grant = some .writer → ∃ r rest, s.log.fifo = r :: rest ∧ r.length ≤ room s)

/-- While RESET_N is low every block holds its reset values: the pins, the timing sets, the segment table, the walker and
its queue, the applier, run control, the log, the trigger lines, the event unit, the window but for LAST and MOPCOUNT, and
the zones, REFINT and the passed-over count. The memory controller keeps its state, size, owed count, REFMISS and timers,
and the port is free or refreshing (R16, R23, R48, R52, R80, R127, R149, R158, R173, R190, R196). -/
def ResetHolds (s : State) : Prop :=
  s.resetLow = true →
    s.ports = Ports.por ∧ s.tsets = TimingSets.por ∧ s.seg = SegTable.por ∧ s.walker = Walker.stoppedState ∧
    s.queue = [] ∧ s.app = Applier.por ∧ s.run = RunControl.por ∧ s.log = Log.por ∧ s.trig = Trigger.por ∧
    s.ev = Events.por ∧ s.win = { Window.por with mopLast := s.win.mopLast, mopCount := s.win.mopCount } ∧
    s.mem = { MemCtl.por s.mem.msize with
      ready := s.mem.ready, initTicks := s.mem.initTicks, refTimer := s.mem.refTimer, owed := s.mem.owed
      refmiss := s.mem.refmiss, grant := s.mem.grant } ∧
    (s.mem.grant = none ∨ s.mem.grant = some .refresh)

/-! ## All of them -/

/-- Every safety property at once. -/
def Safe (s : State) : Prop :=
  MemoryCanonical s ∧ CountsInRange s ∧ QueueBounded s ∧ ZonesDisjoint s ∧ StandbyPinsReceive s ∧
  FaultedOnlyWithCode s ∧ WriterHasRoom s ∧ ResetHolds s

end Sys2Proof.Machine
end

