-- ==== Sys2Proof/Certificates/Slice0/Obligations.lean ====
section
/-! DEFINITION. The statements for the provers. A result statement gives the whole next state: the listed fields take the
values the rule gives, every other field of the state is as it was, and then the arbiter makes the decision that the
end of the step calls for (`Claims.Becomes`; the decision itself is stated in ArbiterFollowsTheRanks). -/

open Sys2Proof Sys2Proof.Machine

/-! ## Words the statements share -/

/-- A row's outcome is the state `t`, but for the arbiter's decision at the end of the step (R169). -/
def Claims.Becomes (r : Result) (t : State) : Prop := r = .next (arbitrate t)

/-- A refused access: WINERR names the code and the offset, WINDOW_ERROR (bit 11) is set, nothing else changes (R177). -/
def Claims.refusedAccess (code : Status) (offset : BitVec 7) (s : State) : State :=
  { s with win.winerr := ⟨code, offset⟩, ev.flags := s.ev.flags ||| 0x0800#14 }

/-- A refused command: CMD holds its code, CMDSTAT the refusal, WINDOW_ERROR is set, nothing else changes (R180). -/
def Claims.refusedCmd (cmd : HW) (code : Status) (s : State) : State :=
  { s with win.cmd := cmd, win.cmdstat := code, ev.flags := s.ev.flags ||| 0x0800#14 }

/-- The registers of an accepted command: CMD holds its code, CMDSTAT is OK (R180). -/
def Claims.accepted (cmd : HW) (s : State) : State := { s with win.cmd := cmd, win.cmdstat := .ok }

/-- An event flag is set by a cause while RESET_N is not low (R192, R196). -/
def Claims.withFlag (bit : Nat) (s : State) : State := { s with ev.flags := s.ev.flags ||| BitVec.ofNat 14 (2 ^ bit) }

/-- A pair of halfwords given low first. -/
def Claims.word (low high : HW) : Nat := low.toNat + 65536 * high.toNat

/-- The run that an accepted START or ARM clears and the walk it begins at entry `i` (R103, R77). -/
def Claims.runBegun (i : SegIdx) (s : State) : State :=
  { s with
    run := { s.run with fault := ⟨.none, ⟨0, 0, 0, 0⟩⟩, stopReq := false, pauseFail := false, pauseHost := false,
                        pauseStep := false, stepReq := false, starve := none, suspended := none, drainAborted := false }
    app := { s.app with vcount := 0, failcount := 0, firstfail := ⟨⟨0, 0, 0, 0⟩, 0⟩, passdone := ⟨127, 0, 0⟩,
                        skipOnce := false, period := none, wait := none }
    log := { s.log with fifo := [], seqno := 0, dropcount := 0, endProduced := false }
    seg.lastrel := 127
    queue := []
    walker := { st := .walking, cur := none, pend := none, next := .arrive i false, tags := ⟨0, 0, 0, 0⟩,
                fetchAddr := 0, stack := [] } }

/-- The pins with every enabled port parked (R2, Table 1-2). -/
def Claims.parkedPins (s : State) : Vector PinState 4 :=
  Vector.ofFn fun p : Fin 4 =>
    let c := s.ports.cfg[p]
    let pins := s.ports.pins[p]
    if c.enabled then
      match c.park with
      | .hiz => ⟨0, pins.level⟩
      | .low => ⟨0xFFFF#16, 0⟩
      | .high => ⟨0xFFFF#16, 0xFFFF#16⟩
      | .hold => pins
    else pins

/-- The walker, the queue, the applier and the requests of a run that has been stopped without release (R78, R99), the
ports parked (R2) and the output lines inactive (R155 to R157). A walker grant in progress is read to its end and
discarded. -/
def Claims.stopped (s : State) : State :=
  { s with
    queue := []
    walker := { st := .stopped, cur := none, pend := none, next := .none, tags := ⟨0, 0, 0, 0⟩, fetchAddr := 0,
                stack := [] }
    mem.grant := match s.mem.grant with
      | some (.walker _) => some (.walker false)
      | g => g
    app.stream := .held, app.period := none, app.wait := none, app.skipOnce := false
    run.stopReq := false, run.pauseFail := false, run.pauseHost := false, run.pauseStep := false, run.stepReq := false
    run.starve := none, run.suspended := none
    ports.pins := Claims.parkedPins s
    trig.active := 0 }

/-- The END record (R136, Table 12-11): end cause, fault code, FAILCOUNT and DROPCOUNT, with the fault position for cause
FAULT and segment 127 otherwise. -/
def Claims.endRecord (cause : Cause) (fault : FaultRecord) (s : State) : LogRecord :=
  { kind := .endRun, mask := 0, seq := s.log.seqno,
    tags := if cause = .fault then fault.pos else ⟨127, 0, 0, 0⟩, tset := 0, vnum := s.app.vcount,
    body := [BitVec.ofNat 16 cause.code, if cause = .fault then BitVec.ofNat 16 fault.code.code else 0,
             s.app.failcount.extractLsb' 0 16, s.app.failcount.extractLsb' 16 16,
             s.log.dropcount.extractLsb' 0 16, s.log.dropcount.extractLsb' 16 16] }

/-- The sequencer enters STOPPING (R122) with a cause and the fault record that then stands, and the drain begins: with
the FIFO empty the END record is produced at once (R146). -/
def Claims.stopping (cause : Cause) (fault : FaultRecord) (s : State) : State :=
  let t := Claims.stopped s
  let t := { t with run.state := .stopping, run.cause := cause, run.fault := fault }
  if s.log.fifo = [] then
    { t with log.fifo := [Claims.endRecord cause fault s], log.seqno := s.log.seqno + 1, log.endProduced := true }
  else { t with log.endProduced := false }

/-- A record is produced (R130, R131): it takes the next sequence number, and joins the FIFO or, with 16 records there, is
dropped and counted with LOG_DROP (bit 6). -/
def Claims.produced (r : LogRecord) (s : State) : State :=
  if s.log.fifo.length < 16 then
    { s with log.fifo := s.log.fifo ++ [{ r with seq := s.log.seqno }], log.seqno := s.log.seqno + 1 }
  else
    Claims.withFlag 6
      { s with log.seqno := s.log.seqno + 1,
               log.dropcount := if s.log.dropcount = 0xFFFFFFFF#32 then 0xFFFFFFFF#32 else s.log.dropcount + 1 }

/-! ## The machine -/

/-- For every command at the front of the queue, a step takes it and runs it on the rest of the queue. -/
def Obligations.StepRunsTheFrontCommand : Prop :=
  ∀ (c : Instr) (rest : List Instr) (s : State), s.pending = c :: rest → step s = exec c { s with pending := rest }

/-- With no command waiting a step is one tick, and it keeps the queue empty. -/
def Claims.EmptyQueueStepTicks : Prop :=
  ∀ s : State, s.pending = [] → step s = .next (tick s) ∧ (tick s).pending = []

/-- The TRIGGER or MATCH wait being made, if there is one (R112). -/
def Claims.waitMade (s : State) : Option WaitProgress :=
  if s.run.state = .waiting ∧ s.run.cause ≠ .notReady then s.app.wait else none

/-- A timed event is due: the drive edge, the strobe or the end of the current period (R88), the sample of a MATCH wait or
the end of the wait period while the wait is made (R112, R114), the STARVETO limit of STARVETO × 65536 ticks (R117), or
the end of a refresh interval (R165). -/
def Claims.eventDue (s : State) : Prop :=
  (∃ p, s.app.period = some p ∧
    ((p.driven = false ∧ p.vec.timing.drv.toNat ≤ p.tick) ∨ (p.strobed = false ∧ p.vec.timing.stb.toNat ≤ p.tick) ∨
      p.vec.timing.per.toNat ≤ p.tick)) ∨
  (∃ w, Claims.waitMade s = some w ∧
    ((w.item.kind = .levels ∧ w.sampled = false ∧ w.item.timing.stb.toNat ≤ w.tick) ∨
      w.item.timing.per.toNat ≤ w.tick)) ∨
  (s.run.state = .waiting ∧ s.run.cause = .notReady ∧ s.run.starveto ≠ 0 ∧
    ∃ n, s.run.starve = some n ∧ s.run.starveto.toNat * 65536 ≤ n) ∨
  (s.mem.ready = true ∧ s.mem.refint.toNat ≤ s.mem.refTimer)

/-- While a timed event is due a tick changes nothing. Else it adds 1 to the tick of the current period, to the tick of a
TRIGGER or MATCH wait that is being made, to the starvation timer in WAITING(NOT_READY), and in READY to the refresh
timer; in INIT, while RESET_N is high, to the settling interval, up to its 40,000 ticks. Nothing else changes. -/
def Claims.TickAdvancesTheCounters : Prop :=
  ∀ s : State,
    (Claims.eventDue s → tick s = s) ∧
    (¬ Claims.eventDue s → tick s =
      { s with
        app.period := s.app.period.map fun p => { p with tick := p.tick + 1 }
        app.wait := match Claims.waitMade s with
          | some w => some { w with tick := w.tick + 1 }
          | none => s.app.wait
        run.starve := if s.run.state = .waiting ∧ s.run.cause = .notReady then s.run.starve.map (· + 1) else s.run.starve
        mem.refTimer := if s.mem.ready then s.mem.refTimer + 1 else s.mem.refTimer
        mem.initTicks := if s.mem.ready = false ∧ s.resetLow = false then min 40000 (s.mem.initTicks + 1)
                         else s.mem.initTicks })

/-- An empty queue's step is one tick of TCLK, and time waits for a timed event that is due: both are the model's choice
(log entry 5); the counters are those of R88, R112, R117, R160 and R165. -/
def Obligations.EmptyQueueStepIsOneTick : Prop := Claims.EmptyQueueStepTicks ∧ Claims.TickAdvancesTheCounters

/-- Every row answers a next state in every state, and leaves the queue of waiting commands as it is. That a row whose event
cannot occur, an access that is not taken and an ill-formed term answer one too, with no effect, is the model's choice
(log entries 4 and 20). -/
def Obligations.EveryCommandCompletes : Prop :=
  ∀ (c : Instr) (s : State), ∃ t, exec c s = .next t ∧ t.pending = s.pending

/-- The machine right after reset has every safety property. -/
def Obligations.ResetStateIsSafe : Prop := Safe State.reset

/-- What the registers read right after POR, for either level of the MSIZE pins and of the pads: the identification, the
reset values that are not 0, and 0 for the states and counters named. -/
def Obligations.RegistersReadTheirResetValues : Prop :=
  ∀ (msize : BitVec 2) (epoch : Nat) (pads : Vector HW 4) (trgPads : BitVec 4),
    let rd := fun o : BitVec 7 => readRegister (State.porWith msize epoch) pads trgPads o
    rd 0x00 = some 0x3C40 ∧ rd 0x01 = some 0x0100 ∧ rd 0x13 = some 1 ∧ rd 0x19 = some 0x7F00 ∧ rd 0x2A = some 127 ∧
    rd 0x50 = some 127 ∧ rd 0x66 = some 64 ∧ rd 0x7A = some 1560 ∧
    rd 0x7B = some (BitVec.ofNat 16 (2 * msize.toNat)) ∧
    (∀ o ∈ ([0x02, 0x03, 0x04, 0x05, 0x0A, 0x0B, 0x0C, 0x0D, 0x0E, 0x10, 0x14, 0x15, 0x18, 0x1A, 0x20, 0x22, 0x30, 0x31,
              0x32, 0x33, 0x34, 0x38, 0x3F, 0x40, 0x4B, 0x4C, 0x4F, 0x54, 0x57, 0x5C, 0x5D, 0x60, 0x61, 0x64, 0x68, 0x6A,
              0x6C, 0x6E, 0x70, 0x72, 0x74, 0x75, 0x77, 0x79] : List (BitVec 7)), rd o = some 0)

/-! ## Invariants: one step keeps each -/

/-- A step keeps the canonical form of pattern memory. -/
def Claims.StepKeepsMemoryCanonical : Prop :=
  ∀ s t : State, MemoryCanonical s → step s = .next t → MemoryCanonical t

/-- A step keeps every count and buffer within its bound: refreshes owed, grants passed over, fail FIFO, loop stack, posted
writes, read-ahead; what a drain grant has left to write stays the oldest of the posted writes. -/
def Claims.StepKeepsCountsInRange : Prop := ∀ s t : State, CountsInRange s → step s = .next t → CountsInRange t

/-- A step keeps pattern memory in its canonical form, and every count and buffer within its bound: refreshes owed, grants
passed over, fail FIFO, loop stack, posted writes, read-ahead. -/
def Obligations.StepKeepsMemoryCanonicalAndCountsInRange : Prop :=
  Claims.StepKeepsMemoryCanonical ∧ Claims.StepKeepsCountsInRange

/-- A step keeps the prefetch queue within 8 items, with a place free whenever the walker is WALKING. -/
def Obligations.StepKeepsQueueBounded : Prop := ∀ s t : State, QueueBounded s → step s = .next t → QueueBounded t

/-- A step keeps the enabled zones disjoint and inside the DRAM. -/
def Obligations.StepKeepsZonesDisjoint : Prop := ∀ s t : State, ZonesDisjoint s → step s = .next t → ZonesDisjoint t

/-- A step keeps the pins of standby ports high-impedance, and keeps every part that is not playing at rest. -/
def Obligations.StepKeepsStandbyPinsReceive : Prop :=
  ∀ s t : State, StandbyPinsReceive s → step s = .next t → StandbyPinsReceive t

/-- A step keeps a fault code behind FAULTED and STOPPING(FAULT). -/
def Obligations.StepKeepsFaultedOnlyWithCode : Prop :=
  ∀ s t : State, FaultedOnlyWithCode s → step s = .next t → FaultedOnlyWithCode t

/-- A step keeps room in the ring for the record being written: a publication never passes LOGRP. -/
def Obligations.StepKeepsRoomForTheRecordWritten : Prop :=
  ∀ s t : State, WriterHasRoom s → step s = .next t → WriterHasRoom t

/-- While RESET_N is low a step keeps the reset values of every block: ports, timing sets, segment table, walker and queue,
applier, run control, log, trigger lines, event unit, the window but for LAST and MOPCOUNT, and the zones, REFINT and the
passed-over count of the memory controller, whose port is free or refreshing. -/
def Obligations.StepKeepsResetWhileLow : Prop := ∀ s t : State, ResetHolds s → step s = .next t → ResetHolds t

/-! ## The arbiter and pattern memory -/

/-- The eight ranks of a grant decision in order, each with its condition and the grant it makes (R169). -/
def Claims.ranks (s : State) (work : Option WinUnit) : List (Bool × Option Grant) :=
  [(decide (s.mem.owed = 8), some .refresh),
   (work.isSome && decide (s.mem.passover = 16), work.map .window),
   (walkerRequest s && decide (s.queue.length ≤ 2), some (.walker true)),
   (decide (writerState s = .requesting) && decide (12 ≤ s.log.fifo.length), some .writer),
   (walkerRequest s, some (.walker true)),
   (decide (writerState s = .requesting), some .writer),
   (work.isSome, work.map .window),
   (decide (1 ≤ s.mem.owed), some .refresh)]

/-- At a decision, with the port free and the controller READY, the arbiter grants the first of the eight ranks that
applies, and nothing when none does. It makes no grant in INIT or while the port is held, and it changes nothing but the
grant and the passed-over count. -/
def Claims.GrantsFollowTheRanks : Prop :=
  ∀ s : State,
    (∃ g n, arbitrate s = { s with mem.grant := g, mem.passover := n }) ∧
    (s.mem.ready = false ∨ s.mem.grant ≠ none → (arbitrate s).mem.grant = s.mem.grant) ∧
    (s.mem.ready = true → s.mem.grant = none →
      (arbitrate s).mem.grant = ((Claims.ranks s (windowWork s)).find? (·.1)).bind (·.2))

/-- The walker has a request while it is WALKING with a record fetch next whose header address lies in an enabled VECTOR
zone (Table 9-4). The log writer is EMPTY with no record, WRITING in its grant, and else REQUESTING or NO_ROOM by whether
the head record fits the room of the ring, LOGSIZE − 1 − occupancy (Table 7-3). -/
def Claims.RequestsStandByTheirConditions : Prop :=
  ∀ s : State, ZonesDisjoint s → RingInRange s →
    (walkerRequest s = true ↔ s.walker.st = .walking ∧ s.walker.next = .fetch ∧
      ∃ i : Fin 8, s.mem.zones[i].enabled = true ∧ s.mem.zones[i].kind = .vector ∧
        s.mem.zones[i].base.toNat ≤ s.walker.fetchAddr ∧ s.walker.fetchAddr ≤ s.mem.zones[i].limit.toNat) ∧
    (s.log.fifo = [] → writerState s = .empty) ∧
    (∀ r rest, s.log.fifo = r :: rest →
      let size : Int := s.log.size.toNat
      let fits := (r.halfwords.length : Int) ≤ size - 1 - ((s.log.wp.toNat : Int) - s.log.rp.toNat) % size
      (s.mem.grant = some .writer → writerState s = .writing) ∧
      (s.mem.grant ≠ some .writer → fits → writerState s = .requesting) ∧
      (s.mem.grant ≠ some .writer → ¬ fits → writerState s = .noRoom))

/-- The unit that the window engine requests: the write grant of a COPY burst that a SOFT_RESET left; else a PATCH; else a
drain of up to 8 of the oldest posted writes; else the next burst of the FILL or COPY in flight, of up to 8 halfwords at
MOPCOUNT halfwords into its range, a COPY first reading them and then writing what it holds; else a read-ahead fetch; else
none. -/
def Claims.WindowRequestsItsNextUnit : Prop :=
  ∀ s : State,
    let done := s.win.mopCount.toNat
    (∀ o, s.win.orphan = some o → windowWork s = some (.copyWrite o.dst o.data (.orphan o.counted))) ∧
    (s.win.orphan = none →
      (∀ r, s.win.patch = some r → windowWork s = some (.patch r)) ∧
      (s.win.patch = none → s.win.posted ≠ [] → windowWork s = some (.drain (s.win.posted.take 8) true)) ∧
      (s.win.patch = none → s.win.posted = [] →
        (∀ dst len v, s.win.memop = .fill dst len v →
          windowWork s = some (.fill (dst + done) (min 8 (len - done)) v .live)) ∧
        (∀ src dst len, s.win.memop = .copy src dst len none →
          windowWork s = some (.copyRead (src + done) (dst + done) (min 8 (len - done)) .live)) ∧
        (∀ src dst len xs, s.win.memop = .copy src dst len (some xs) →
          windowWork s = some (.copyWrite (dst + done) xs .live)) ∧
        (∀ f, s.win.memop = .idle → s.win.fetch = some f → windowWork s = some (.fetch f.addr f.n true)) ∧
        (s.win.memop = .idle → s.win.fetch = none → windowWork s = none)))

/-- The arbiter's decision, and the requests of the walker, the log writer and the window engine that it decides over. That
the write grant of a COPY burst left by a SOFT_RESET comes before every other work of the window is the model's reading
(log entry 12). -/
def Obligations.ArbiterFollowsTheRanks : Prop :=
  Claims.GrantsFollowTheRanks ∧ Claims.RequestsStandByTheirConditions ∧ Claims.WindowRequestsItsNextUnit

/-- The passed-over count: a decision that grants the walker or the writer past a waiting window request raises it by 1 up
to 16, a grant to the window clears it, a refresh leaves it, and it is 0 whenever no window request stands. -/
def Obligations.PassedOverCountFollowsTheGrants : Prop :=
  ∀ s : State,
    (windowWork s = none → (arbitrate s).mem.passover = 0) ∧
    (windowWork s ≠ none → (s.mem.ready = false ∨ s.mem.grant ≠ none → (arbitrate s).mem.passover = s.mem.passover)) ∧
    (windowWork s ≠ none → s.mem.ready = true → s.mem.grant = none →
      ((arbitrate s).mem.grant = some (.walker true) ∨ (arbitrate s).mem.grant = some .writer →
        (arbitrate s).mem.passover = if s.mem.passover < 16 then s.mem.passover + 1 else s.mem.passover) ∧
      (∀ u, (arbitrate s).mem.grant = some (.window u) → (arbitrate s).mem.passover = 0) ∧
      ((arbitrate s).mem.grant = some .refresh → (arbitrate s).mem.passover = s.mem.passover))

/-- A read of pattern memory gives the halfword last written there: writes at consecutive addresses are read back, and
every other address holds what it held. An address never written since POR gives the same unknown halfword at every
read while no refresh has been missed, which is the model's choice (log entry 2). -/
def Obligations.MemoryReadsGiveTheLastWrite : Prop :=
  ∀ (s : State) (a b : Nat) (vs : List HW),
    (∀ h : b - a < vs.length, a ≤ b → readHalf b (writeHalves a vs s) = (vs[b - a], writeHalves a vs s)) ∧
    (b < a ∨ a + vs.length ≤ b →
      (readHalf b (writeHalves a vs s)).1 = (readHalf b s).1 ∧
      (writeHalves a vs s).dram.cells.read? b = s.dram.cells.read? b) ∧
    (s.dram.decayed = false → (readHalf b s).2 = s)

/-- A missed refresh sets REFMISS, and REFRESH_MISSED (bit 13) unless RESET_N is low (R173, R196): from then on a halfword
not written since may read as any value, a new one at each read. -/
def Claims.MissedRefreshUnfixesUnwrittenHalfwords : Prop :=
  ∀ (s : State), s.mem.ready = true → s.mem.owed = 8 →
    let t := { s with mem.refTimer := 0, mem.refmiss := true, dram.cells := [], dram.decayed := true }
    Claims.Becomes (exec .refreshTimerExpiry s) (if s.resetLow then t else Claims.withFlag 13 t) ∧
    ∀ (t : State) (a : Nat), t.dram.decayed = true → t.dram.cells.read? a = none →
      readHalf a t = (Config.decayedHalfword t.free, { t with free := t.free + 1 })

/-! ## Lanes, the comparator and the modifier -/

/-- The lane widths a port can have. -/
def Claims.isWidth (w : Nat) : Prop := w = 1 ∨ w = 4 ∨ w = 8 ∨ w = 16

/-- Lane i of a port of width w holds pins 15 − i·w down to 16 − (i+1)·w, highest pin first, and its value is that number,
unsigned or in two's complement. -/
def Claims.LaneValueIsTheLanesPins : Prop :=
  ∀ (v : HW) (w i : Nat), Claims.isWidth w → i < 16 / w →
    laneCount w = 16 / w ∧
    laneValue v w i = (v.extractLsb' (16 - (i + 1) * w) w).toNat ∧
    laneSigned w (laneValue v w i) = (v.extractLsb' (16 - (i + 1) * w) w).toInt

/-- Bit 15 − i of a lane-result word is 1 exactly when lane i fails; the bits below the lanes are 0. -/
def Claims.LaneResultWordPacksTheLanes : Prop :=
  ∀ (cfg : PortCfg) (part : PortPart) (observed : HW) (k : Nat), k < 16 →
    (laneResult cfg part observed).getLsbD k =
      (decide (15 - k < 16 / cfg.width.pins) && laneFails cfg part observed (15 - k))

/-- Lane i of a port is its pins 15 − i·w down to 16 − (i+1)·w, read unsigned or in two's complement (R10), and bit 15 − i
of a lane-result word says whether lane i fails (R11). -/
def Obligations.LanesAndTheirResultsArePacked : Prop :=
  Claims.LaneValueIsTheLanesPins ∧ Claims.LaneResultWordPacksTheLanes

/-- Under EQ a lane fails exactly when one of its pins is RECEIVE, cared for, and observed unlike its DATA bit; no mix of
directions and care is a MIXED lane. -/
def Obligations.EqualityJudgesPinByPin : Prop :=
  ∀ (cfg : PortCfg) (part : PortPart) (observed : HW) (i : Nat), cfg.kind = .eq → i < 16 / cfg.width.pins →
    hasMixedLane cfg part = false ∧
    (laneFails cfg part observed i = true ↔
      ∃ k, 16 - (i + 1) * cfg.width.pins ≤ k ∧ k ≤ 15 - i * cfg.width.pins ∧
        part.dir.getLsbD k = false ∧ part.care.getLsbD k = true ∧ observed.getLsbD k ≠ part.data.getLsbD k)

/-- Under a magnitude kind a COMPARED lane fails exactly when the relation the kind names does not hold between the
observed and the expected lane value, read unsigned for ULE and UGE and as two's complement for SLE and SGE. Equal values
pass under every kind. -/
def Obligations.MagnitudeKindsCompareLaneValues : Prop :=
  ∀ (cfg : PortCfg) (part : PortPart) (observed : HW) (i : Nat), cfg.kind ≠ .eq → i < 16 / cfg.width.pins →
    laneClass cfg.width.pins part i = .compared →
    let w := cfg.width.pins
    let seen := observed.extractLsb' (16 - (i + 1) * w) w
    let want := part.data.extractLsb' (16 - (i + 1) * w) w
    (cfg.kind = .ule → (laneFails cfg part observed i = true ↔ want.toNat < seen.toNat)) ∧
    (cfg.kind = .uge → (laneFails cfg part observed i = true ↔ seen.toNat < want.toNat)) ∧
    (cfg.kind = .sle → (laneFails cfg part observed i = true ↔ want.toInt < seen.toInt)) ∧
    (cfg.kind = .sge → (laneFails cfg part observed i = true ↔ seen.toInt < want.toInt)) ∧
    (seen = want → laneFails cfg part observed i = false)

/-- The class of a lane under a magnitude kind, by the DIR and CARE of its pins: COMPARED with every pin RECEIVE and
cared for, NOT COMPARED with every pin DRIVE or no pin cared for, and MIXED otherwise. A lane that is not compared passes. -/
def Obligations.LaneClassFollowsDirectionsAndCare : Prop :=
  ∀ (cfg : PortCfg) (part : PortPart) (observed : HW) (i : Nat), i < 16 / cfg.width.pins →
    let w := cfg.width.pins
    let pin := fun k => 16 - (i + 1) * w ≤ k ∧ k ≤ 15 - i * w
    let allDrive := ∀ k, pin k → part.dir.getLsbD k = true
    let allReceive := ∀ k, pin k → part.dir.getLsbD k = false
    let allCared := ∀ k, pin k → part.care.getLsbD k = true
    let noneCared := ∀ k, pin k → part.care.getLsbD k = false
    (laneClass w part i = .compared ↔ allReceive ∧ allCared) ∧
    (laneClass w part i = .notCompared ↔ allDrive ∨ noneCared) ∧
    (laneClass w part i = .mixed ↔ ¬ (allReceive ∧ allCared) ∧ ¬ (allDrive ∨ noneCared)) ∧
    (cfg.kind ≠ .eq → laneClass w part i = .notCompared → laneFails cfg part observed i = false)

/-- The lane result after k applications of MODOP, as Table 2-6 gives it, is one application repeated k times: INC and DEC
add and subtract 1 modulo 2^w, SHL and SHR shift a 0 in, ROL and ROR carry the bit that falls out to the other end, and
INV inverts every bit. -/
def Obligations.ModifierRepeatsOneApplication : Prop :=
  ∀ (op : BitVec 3) (w : Nat) (v : BitVec w) (k : Nat), Claims.isWidth w →
    laneModify op w v.toNat k = (laneModifyOnce op w)^[k] v.toNat ∧
    laneModifyOnce op w v.toNat =
      (if op = 0 then v else if op = 1 then v + 1 else if op = 2 then v - 1 else if op = 3 then v <<< 1
       else if op = 4 then v >>> 1 else if op = 5 then v.rotateLeft 1 else if op = 6 then v.rotateRight 1
       else ~~~v).toNat

/-- The modifier replaces the DATA of a named present port from iteration 1 on: a target pin of MODTGT takes the bit of its
lane's result, every other pin keeps the bit as read; DIR and CARE are never altered. -/
def Obligations.ModifierReplacesTargetPinsOnly : Prop :=
  ∀ (e : SegImage) (cfg : PortCfg) (p : Port) (k : Nat) (part : PortPart) (pin : Nat), pin < 16 →
    let w := cfg.width.pins
    let out := modifyPart e cfg p k part
    let acts := (segModports e).getLsbD p.val = true ∧ k ≠ 0 ∧ segModop e ≠ 0
    let target := segModtgt e = 2 ∨ (segModtgt e = 0 ∧ part.dir.getLsbD pin = true) ∨
      (segModtgt e = 1 ∧ part.dir.getLsbD pin = false)
    let lane := (15 - pin) / w
    out.dir = part.dir ∧ out.care = part.care ∧
    (¬ acts → out = part) ∧
    (acts → segModtgt e ≠ 3 →
      (target → out.data.getLsbD pin =
        (laneModify (segModop e) w (laneValue part.data w lane) k).testBit (pin - (16 - (lane + 1) * w))) ∧
      (¬ target → out.data.getLsbD pin = part.data.getLsbD pin))

/-! ## Run commands -/

/-- START and ARM: with every start check passed the run state is cleared, the walk begins at STARTSEG, and the sequencer
is in RUNNING and PRIMING with the OUT_RUN lines active, or in ARMED with the applier HELD. That the arrival at STARTSEG
is the walker's next step and not part of the command is the model's reading (log entry 7). -/
def Obligations.StartAndArmBeginARun : Prop :=
  ∀ (s : State) (i : SegIdx), busFree s = true → s.run.state = .idle → s.mem.ready = true → s.win.posted = [] →
    s.win.memop = .idle → rangeInKind s .log s.log.base.toNat s.log.size.toNat = true → s.seg.startseg.toNat = i.val →
    Claims.Becomes (exec .start s)
      { Claims.runBegun i (Claims.accepted 0x01 s) with
        run.state := .running, run.cause := .none, app.stream := .priming
        trig.active := s.trig.active ||| linesIn s .outRun } ∧
    (s.trig.lines[s.run.armcfg].mode = .input →
      Claims.Becomes (exec .arm s)
        { Claims.runBegun i (Claims.accepted 0x02 s) with
          run.state := .armed, run.cause := .none, app.stream := .held })

/-- The start checks, in their order: outside IDLE, START and ARM are refused with WRONG_STATE; in IDLE the first check
that fails gives the refusal, and a refused command changes nothing but CMD, CMDSTAT and WINDOW_ERROR. -/
def Obligations.StartChecksRefuseInOrder : Prop :=
  ∀ (s : State) (isArm : Bool) (code : Status), busFree s = true →
    let ring := rangeInKind s .log s.log.base.toNat s.log.size.toNat
    ((s.run.state ≠ .idle ∧ code = .wrongState) ∨
     (s.run.state = .idle ∧
      ((s.mem.ready = false ∧ code = .memNotReady) ∨
       (s.mem.ready = true ∧
        ((s.win.posted ≠ [] ∧ code = .wbufPending) ∨
         (s.win.posted = [] ∧
          ((s.win.memop ≠ .idle ∧ code = .memopBusy) ∨
           (s.win.memop = .idle ∧
            ((ring = false ∧ code = .badLog) ∨
             (ring = true ∧ code = .badArg ∧
              (64 ≤ s.seg.startseg.toNat ∨
               (isArm = true ∧ s.trig.lines[s.run.armcfg].mode ≠ .input)))))))))))) →
    Claims.Becomes (exec (if isArm then .arm else .start) s)
      (Claims.refusedCmd (if isArm then 0x02 else 0x01) code s)

/-- PAUSE: while STREAMING it holds a HOST request and the sequencer stays RUNNING; while PRIMING it pauses at once; in
WAITING it suspends the wait; each way it clears the step request. In every other state it is refused. -/
def Obligations.PauseActsByTheSequencerState : Prop :=
  ∀ s : State, busFree s = true →
    (s.run.state = .running → s.app.stream = .streaming →
      Claims.Becomes (exec .pause s)
        { Claims.accepted 0x03 s with run.stepReq := false, run.pauseHost := true }) ∧
    (s.run.state = .running → s.app.stream ≠ .streaming →
      Claims.Becomes (exec .pause s)
        (Claims.withFlag 2
          { Claims.accepted 0x03 s with
            run.stepReq := false, run.state := .paused, run.cause := .host, run.suspended := none
            app.stream := .held })) ∧
    (s.run.state = .waiting →
      Claims.Becomes (exec .pause s)
        (Claims.withFlag 2
          { Claims.accepted 0x03 s with
            run.stepReq := false, run.state := .paused, run.cause := .host, run.suspended := some s.run.cause
            app.stream := .held })) ∧
    (s.run.state ≠ .running → s.run.state ≠ .waiting →
      Claims.Becomes (exec .pause s) (Claims.refusedCmd 0x03 .wrongState s))

/-- RESUME and STEP from PAUSED. A suspended TRIGGER or MATCH wait is made again in a new wait period with its remaining
count, and sets WAITING; so does a suspended NOT_READY wait whose walker has not left STALL_READY. Without a suspended
wait, or with one resolved meanwhile, the sequencer enters RUNNING and PRIMING, and the stream begins at once when the
queue is primed. STEP also sets the step request. In every other state both are refused with WRONG_STATE. -/
def Obligations.ResumeAndStepLeaveThePause : Prop :=
  ∀ (s : State) (isStep : Bool), busFree s = true →
    let row := if isStep then Instr.step else .resume
    let code : HW := if isStep then 0x05 else 0x04
    let s' := { Claims.accepted code s with run.stepReq := isStep || s.run.stepReq, run.suspended := none }
    let primes := fun t : State =>
      let t := { t with run.state := .running, run.cause := .none, app.stream := .priming }
      if primed t then taking t else t
    let stalled := s.walker.st = .stallReady ∧ s.run.starve ≠ none
    (s.run.state ≠ .paused → Claims.Becomes (exec row s) (Claims.refusedCmd code .wrongState s)) ∧
    (s.run.state = .paused →
      (s.run.suspended = none → Claims.Becomes (exec row s) (primes s')) ∧
      (∀ k, s.run.suspended = some k → k ≠ .notReady →
        Claims.Becomes (exec row s)
          (Claims.withFlag 3
            { s' with run.state := .waiting, run.cause := k, app.stream := .held
                      app.wait := s.app.wait.map fun w => { w with tick := 0, sampled := false } })) ∧
      (s.run.suspended = some .notReady → stalled →
        Claims.Becomes (exec row s)
          (Claims.withFlag 3 { s' with run.state := .waiting, run.cause := .notReady, app.stream := .held })) ∧
      (s.run.suspended = some .notReady → ¬ stalled →
        Claims.Becomes (exec row s) (primes { s' with run.starve := none })))

/-- CLEAR in ENDED or FAULTED places the sequencer in IDLE with cause NONE and leaves everything else of the run; in every
other state it is refused with WRONG_STATE. -/
def Obligations.ClearReturnsToIdle : Prop :=
  ∀ s : State, busFree s = true →
    (s.run.state = .ended ∨ s.run.state = .faulted →
      Claims.Becomes (exec .clear s) { Claims.accepted 0x07 s with run.state := .idle, run.cause := .none }) ∧
    (s.run.state ≠ .ended → s.run.state ≠ .faulted →
      Claims.Becomes (exec .clear s) (Claims.refusedCmd 0x07 .wrongState s))

/-- ABORT: from ARMED, RUNNING, WAITING or PAUSED the sequencer enters STOPPING(ABORT) with the fault record as it was. In
STOPPING, the first time, the records not being written are discarded and counted, DRAIN_ABORTED is set, and with none
being written the drain completes at once; a further ABORT has no effect. In IDLE, ENDED and FAULTED it is refused. -/
def Obligations.AbortStopsTheRunOrShortensTheDrain : Prop :=
  ∀ s : State, busFree s = true →
    (runActive s = true → s.run.state ≠ .stopping →
      Claims.Becomes (exec .abort s) (Claims.stopping .abort s.run.fault (Claims.accepted 0x06 s))) ∧
    (s.run.state = .stopping → s.run.drainAborted = true →
      Claims.Becomes (exec .abort s) (Claims.accepted 0x06 s)) ∧
    (s.run.state = .stopping → s.run.drainAborted = false →
      let kept := if s.mem.grant = some .writer then s.log.fifo.take 1 else []
      let n := s.log.fifo.length - kept.length
      let cut : State :=
        { Claims.accepted 0x06 s with
          log.fifo := kept, run.drainAborted := true
          log.dropcount := if s.log.dropcount.toNat + n < 2 ^ 32 then s.log.dropcount + BitVec.ofNat 32 n
                           else 0xFFFFFFFF#32 }
      let cut := if n = 0 then cut else Claims.withFlag 6 cut
      Claims.Becomes (exec .abort s)
        (if kept ≠ [] then cut
         else if s.run.cause = .fault then Claims.withFlag 1 { cut with run.state := .faulted }
         else Claims.withFlag 0 { cut with run.state := .ended })) ∧
    (runActive s = false → Claims.Becomes (exec .abort s) (Claims.refusedCmd 0x06 .wrongState s))

/-- Pattern memory with halfwords of the head record in the ring: halfword i at LOGBASE + ((LOGWP + i) mod LOGSIZE)
(R140). -/
def Claims.ringWritten (s : State) (hs : List HW) : Memory :=
  hs.zipIdx.foldl
    (fun m x => m.write (s.log.base.toNat + (s.log.wp.toNat + x.2) % s.log.size.toNat) x.1) s.dram.cells

/-- The grant in progress after a SOFT_RESET: the window's runs on to the end of its unit, a drain and a fetch with no more
effect on the buffers, and a burst of the operation in flight as one left to end, which MOPCOUNT still counts (R191, R183).
A burst already left to end, and every other grant, is kept. -/
def Claims.grantLeft : Option Grant → Option Grant
  | some (.window (.drain ws _)) => some (.window (.drain ws false))
  | some (.window (.fetch a n _)) => some (.window (.fetch a n false))
  | some (.window (.fill d n v .live)) => some (.window (.fill d n v (.orphan true)))
  | some (.window (.copyRead a d n .live)) => some (.window (.copyRead a d n (.orphan true)))
  | some (.window (.copyWrite d xs .live)) => some (.window (.copyWrite d xs (.orphan true)))
  | g => g

/-- The write grant that a SOFT_RESET leaves to come: that of a COPY burst between its two grants, of the halfwords it holds
at MOPCOUNT into the destination, which MOPCOUNT counts (R186, R191); else the one left before, if any. -/
def Claims.writeLeft (s : State) : Option OrphanWrite :=
  match s.win.memop, s.mem.grant with
  | .copy _ _ _ (some _), some (.window (.fill _ _ _ .live)) => s.win.orphan
  | .copy _ _ _ (some _), some (.window (.copyRead _ _ _ .live)) => s.win.orphan
  | .copy _ _ _ (some _), some (.window (.copyWrite _ _ .live)) => s.win.orphan
  | .copy _ dst _ (some xs), _ => some ⟨dst + s.win.mopCount.toNat, xs, true⟩
  | _, _ => s.win.orphan

/-- SOFT_RESET is taken in every state. It ends the run without a drain, clears the counters, records, latches and flags,
parks the ports, and empties the window's buffers and its engine; the configuration, the zones, the segment entries, the
arguments and the pattern memory are kept. A writer grant ends, with the `n` halfwords it has written left in memory; a
window grant in progress, and a COPY burst between its two grants, run on to their end; a drain and a fetch no longer touch
the buffers, and MOPCOUNT counts the burst. -/
def Obligations.SoftResetClearsTheRunAndKeepsTheConfiguration : Prop :=
  ∀ (s : State) (n : Nat), busFree s = true →
    let cut := match s.mem.grant, s.log.fifo with
      | some .writer, r :: _ =>
        { s with mem.grant := none
                 dram.cells := Claims.ringWritten s (r.halfwords.take (min n (r.halfwords.length - 1))) }
      | some .writer, [] => { s with mem.grant := none }
      | _, _ => s
    let t := Claims.stopped cut
    Claims.Becomes (exec (.softReset n) s)
      { t with
        run := { t.run with state := .idle, cause := .none, fault := ⟨.none, ⟨0, 0, 0, 0⟩⟩, drainAborted := false }
        app := { t.app with vcount := 0, failcount := 0, firstfail := ⟨⟨0, 0, 0, 0⟩, 0⟩, passdone := ⟨127, 0, 0⟩ }
        log := { s.log with fifo := [], seqno := 0, dropcount := 0, endProduced := false }
        seg.lastrel := 127
        trig.latch := 0
        ev.flags := 0
        mem.passover := 0
        mem.grant := Claims.grantLeft t.mem.grant
        win := { s.win with posted := [], ahead := [], fetch := none, memop := .idle, orphan := Claims.writeLeft s
                            cmd := 0x5A, cmdstat := .ok, cmdres := 0, winerr := ⟨.ok, 0⟩
                            mopLast := if s.win.memop = .idle then s.win.mopLast else .cancelled } }

/-! ## Register writes -/

/-- A write of CMD with an unassigned code is refused with ILLEGAL_CMD. A write to a read-only register or an unassigned
offset is refused with NO_REG. -/
def Claims.UnassignedCodesAndOffsetsAreRefused : Prop :=
  ∀ (s : State) (code value : HW) (o : BitVec 7), busFree s = true →
    ((Instr.illegalCmd code).wellFormed = true →
      Claims.Becomes (exec (.illegalCmd code) s) (Claims.refusedCmd code .illegalCmd s)) ∧
    ((Instr.registerWrite o value).wellFormed = true → o.toNat < 5 ∨ 11 ≤ o.toNat →
      Claims.Becomes (exec (.registerWrite o value) s) (Claims.refusedAccess .noReg o s))

/-- The argument registers CARG0 to CARG5 and the twelve staging registers store any halfword in every state. -/
def Claims.ArgumentAndStagingWritesStoreAnyHalfword : Prop :=
  ∀ (s : State) (v : HW), busFree s = true →
    (∀ i : Fin 6, Claims.Becomes (exec (.registerWrite (BitVec.ofNat 7 (5 + i.val)) v) s)
      { s with win.carg := s.win.carg.set i v }) ∧
    (∀ i : Fin 12, Claims.Becomes (exec (.segstageWrite i v) s) { s with seg.stage := s.seg.stage.set i v })

/-- Unassigned command codes and offsets are refused; the argument and staging registers store any halfword. -/
def Obligations.RegisterWritesOutsideTheOwnedOffsets : Prop :=
  Claims.UnassignedCodesAndOffsetsAreRefused ∧ Claims.ArgumentAndStagingWritesStoreAnyHalfword

/-- The rows that write the registers of Table 6-4, each with the offset whose write it is, for a written halfword. -/
def Claims.lockedWrites (v : HW) : List (Instr × BitVec 7) :=
  [(.portcfgWrite 0 v, 0x54), (.portcfgWrite 1 v, 0x55), (.portcfgWrite 2 v, 0x56), (.portcfgWrite 3 v, 0x57),
   (.tsetValueWrite .per v, 0x5D), (.tsetValueWrite .drv v, 0x5E), (.tsetValueWrite .stb v, 0x5F),
   (.startsegWrite v, 0x30), (.armcfgWrite v, 0x31), (.starvetoWrite v, 0x32), (.failpolicyWrite v, 0x33),
   (.faillimitWrite v, 0x34), (.logbaseWrite v, 0x65), (.logsizeWrite v, 0x67), (.loglevelWrite v, 0x69),
   (.trgcfgWrite v, 0x60), (.zoneDescriptorWrite .zbase v, 0x76), (.zoneDescriptorWrite .zlimit v, 0x78),
   (.zoneDescriptorWrite .zattr v, 0x79), (.refintWrite v, 0x7A)]

/-- While a run is active a write to any register of Table 6-4 is refused with CONFIG_LOCKED, whatever its value, and
changes nothing but WINERR and WINDOW_ERROR. -/
def Obligations.ConfigurationLockRefusesWritesDuringARun : Prop :=
  ∀ (s : State) (v : HW), busFree s = true →
    s.run.state = .armed ∨ s.run.state = .running ∨ s.run.state = .waiting ∨ s.run.state = .paused ∨
      s.run.state = .stopping →
    ∀ r ∈ Claims.lockedWrites v, Claims.Becomes (exec r.1 s) (Claims.refusedAccess .configLocked r.2 s)

/-- PORTCFG outside a run: reserved bits, KIND 5 to 7 and a magnitude kind at width 1 are refused. Any other value becomes
the record, and the pins change at once: RECEIVE for standby, the park state for an enabled port. -/
def Obligations.PortcfgWriteSetsTheRecordAndThePins : Prop :=
  ∀ (s : State) (p : Port) (v : HW), busFree s = true → runActive s = false →
    let width := [Width.w1, .w4, .w8, .w16].getD (v.extractLsb' 1 2).toNat .w1
    let kind := [CompareKind.eq, .ule, .uge, .sle, .sge].getD (v.extractLsb' 3 3).toNat .eq
    let park := [Park.hiz, .low, .high, .hold].getD (v.extractLsb' 6 2).toNat .hiz
    let bad := 256 ≤ v.toNat ∨ 5 ≤ (v.extractLsb' 3 3).toNat ∨ (kind ≠ .eq ∧ width = .w1)
    let pins := s.ports.pins[p]
    (bad → Claims.Becomes (exec (.portcfgWrite p v) s)
      (Claims.refusedAccess .badArg (BitVec.ofNat 7 (0x54 + p.val)) s)) ∧
    (¬ bad → Claims.Becomes (exec (.portcfgWrite p v) s)
      { s with
        ports.cfg := s.ports.cfg.set p ⟨v.getLsbD 0, width, kind, park⟩
        ports.pins := s.ports.pins.set p
          (if v.getLsbD 0 = false then ⟨0, pins.level⟩
           else match park with
             | .hiz => ⟨0, pins.level⟩
             | .low => ⟨0xFFFF#16, 0⟩
             | .high => ⟨0xFFFF#16, 0xFFFF#16⟩
             | .hold => pins) })

/-- TSETSEL takes 0 to 7 in every state and selects that set. Outside a run TSETPER, TSETDRV and TSETSTB replace one value
of the selected set and accept any halfword. -/
def Claims.TimingSetWritesReplaceTheSelectedSet : Prop :=
  ∀ (s : State) (v : HW), busFree s = true →
    (∀ k : Fin 8, v = BitVec.ofNat 16 k.val → Claims.Becomes (exec (.tsetselWrite v) s) { s with tsets.sel := k }) ∧
    (8 ≤ v.toNat → Claims.Becomes (exec (.tsetselWrite v) s) (Claims.refusedAccess .badArg 0x5C s)) ∧
    (runActive s = false →
      let t := s.tsets.sets[s.tsets.sel]
      Claims.Becomes (exec (.tsetValueWrite .per v) s)
        { s with tsets.sets := s.tsets.sets.set s.tsets.sel { t with per := v } } ∧
      Claims.Becomes (exec (.tsetValueWrite .drv v) s)
        { s with tsets.sets := s.tsets.sets.set s.tsets.sel { t with drv := v } } ∧
      Claims.Becomes (exec (.tsetValueWrite .stb v) s)
        { s with tsets.sets := s.tsets.sets.set s.tsets.sel { t with stb := v } })

/-- STARTSEG, ARMCFG, STARVETO, FAILPOLICY and FAILLIMIT outside a run: a value in range is stored and nothing else
changes; one out of range is refused with BAD_ARG. -/
def Claims.RunSettingWritesStoreValuesInRange : Prop :=
  ∀ (s : State) (v : HW), busFree s = true → runActive s = false →
    (∀ n : BitVec 7, v = n.setWidth 16 →
      Claims.Becomes (exec (.startsegWrite v) s) { s with seg.startseg := n }) ∧
    (128 ≤ v.toNat → Claims.Becomes (exec (.startsegWrite v) s) (Claims.refusedAccess .badArg 0x30 s)) ∧
    (∀ j : Line, v = BitVec.ofNat 16 j.val →
      Claims.Becomes (exec (.armcfgWrite v) s) { s with run.armcfg := j }) ∧
    (4 ≤ v.toNat → Claims.Becomes (exec (.armcfgWrite v) s) (Claims.refusedAccess .badArg 0x31 s)) ∧
    Claims.Becomes (exec (.starvetoWrite v) s) { s with run.starveto := v } ∧
    (v.toNat < 2 → Claims.Becomes (exec (.failpolicyWrite v) s) { s with run.failPause := v == 1 }) ∧
    (2 ≤ v.toNat → Claims.Becomes (exec (.failpolicyWrite v) s) (Claims.refusedAccess .badArg 0x33 s)) ∧
    Claims.Becomes (exec (.faillimitWrite v) s) { s with run.faillimit := v }

/-- The registers of a breakpoint unit are written in every sequencer state: BPnCTL takes 0 to 15, BPnSEG 0 to 63, BPnOFF 0
to 65534 and BPnITER 0 to 4095; any other value is refused with BAD_ARG. -/
def Claims.BreakpointWritesStoreValuesInRange : Prop :=
  ∀ (s : State) (n : Fin 2) (v : HW), busFree s = true →
    let b := s.run.bp[n]
    let put := fun b' : Breakpoint => { s with run.bp := s.run.bp.set n b' }
    let refused := fun k : Nat => Claims.refusedAccess .badArg (BitVec.ofNat 7 (0x38 + 4 * n.val + k)) s
    Claims.Becomes (exec (.breakpointWrite n .ctl v) s)
      (if v.toNat < 16 then
        put { b with enable := v.getLsbD 0, segen := v.getLsbD 1, offen := v.getLsbD 2, iteren := v.getLsbD 3 }
       else refused 0) ∧
    Claims.Becomes (exec (.breakpointWrite n .seg v) s)
      (if v.toNat < 64 then put { b with seg := v.setWidth 6 } else refused 1) ∧
    Claims.Becomes (exec (.breakpointWrite n .off v) s)
      (if v.toNat < 65535 then put { b with off := v } else refused 2) ∧
    Claims.Becomes (exec (.breakpointWrite n .iter v) s)
      (if v.toNat < 4096 then put { b with iter := v.setWidth 12 } else refused 3)

/-- The writes of the timing sets, of run control's settings and of the breakpoint units: a value in range is stored and
nothing else changes, a value out of range is refused with BAD_ARG. -/
def Obligations.SettingWritesReplaceTheirRegister : Prop :=
  Claims.TimingSetWritesReplaceTheSelectedSet ∧ Claims.RunSettingWritesStoreValuesInRange ∧ Claims.BreakpointWritesStoreValuesInRange

/-- LOGBASE, LOGSIZE and LOGLEVEL outside a run, completed by the high halfword: a value in range is stored; a changed
LOGBASE or LOGSIZE sets both ring pointers to 0; a value out of range is refused with BAD_ARG. -/
def Claims.LogRegisterWritesPlaceTheRing : Prop :=
  ∀ (s : State) (high : HW), busFree s = true → runActive s = false →
    let base := Claims.word s.win.holdings[pairIndex .logbase] high
    let size := Claims.word s.win.holdings[pairIndex .logsize] high
    let level := Claims.word s.win.holdings[pairIndex .loglevel] high
    Claims.Becomes (exec (.logbaseWrite high) s)
      (if 2 ^ 25 ≤ base then Claims.refusedAccess .badArg 0x65 s
       else if base = s.log.base.toNat then s
       else { s with log.base := BitVec.ofNat 25 base, log.wp := 0, log.rp := 0 }) ∧
    Claims.Becomes (exec (.logsizeWrite high) s)
      (if size < 64 ∨ 16777216 < size then Claims.refusedAccess .badArg 0x67 s
       else if size = s.log.size.toNat then s
       else { s with log.size := BitVec.ofNat 25 size, log.wp := 0, log.rp := 0 }) ∧
    Claims.Becomes (exec (.loglevelWrite high) s)
      (if 16777215 < level then Claims.refusedAccess .badArg 0x69 s
       else { s with log.level := BitVec.ofNat 24 level })

/-- LOG_RESET sets both ring pointers to 0 while no run is active and leaves everything else; while a run is active it is
refused with WRONG_STATE. -/
def Obligations.LogResetEmptiesTheRing : Prop :=
  ∀ s : State, busFree s = true →
    (runActive s = false →
      Claims.Becomes (exec .logReset s) { Claims.accepted 0x30 s with log.wp := 0, log.rp := 0 }) ∧
    (runActive s = true → Claims.Becomes (exec .logReset s) (Claims.refusedCmd 0x30 .wrongState s))

/-- LOGRP takes a value inside the ring whose advance, modulo LOGSIZE, is at most the occupancy; any other value is refused
with BAD_ARG. Taken in every sequencer state. -/
def Claims.LogrpWriteReleasesTheRing : Prop :=
  ∀ (s : State) (high : HW), busFree s = true → RingInRange s →
    let v := Claims.word s.win.holdings[pairIndex .logrp] high
    let size : Int := s.log.size.toNat
    let advance := ((v : Int) - s.log.rp.toNat) % size
    let occupied := ((s.log.wp.toNat : Int) - s.log.rp.toNat) % size
    Claims.Becomes (exec (.logrpWrite high) s)
      (if (v : Int) < size ∧ advance ≤ occupied then { s with log.rp := BitVec.ofNat 24 v }
       else Claims.refusedAccess .badArg 0x6D s)

/-- The writes of LOGBASE, LOGSIZE and LOGLEVEL outside a run, and of LOGRP in every state. -/
def Obligations.LogRegisterWritesFollowTheirRules : Prop :=
  Claims.LogRegisterWritesPlaceTheRing ∧ Claims.LogrpWriteReleasesTheRing

/-- TRGCFG outside a run: EDGE 3 on any line is refused; any other value gives every line its mode and edge kind and leaves
every output line inactive. -/
def Obligations.TrgcfgWriteSetsEveryLine : Prop :=
  ∀ (s : State) (v : HW), busFree s = true → runActive s = false →
    let edge := fun j : Line => (v.extractLsb' (4 * j.val + 2) 2).toNat
    let mode := fun j : Line => (v.extractLsb' (4 * j.val) 2).toNat
    ((∃ j, edge j = 3) → Claims.Becomes (exec (.trgcfgWrite v) s) (Claims.refusedAccess .badArg 0x60 s)) ∧
    ((∀ j, edge j ≠ 3) → Claims.Becomes (exec (.trgcfgWrite v) s)
      { s with
        trig.lines := Vector.ofFn fun j : Line =>
          ⟨[TrgMode.input, .outMark, .outRun, .outFail].getD (mode j) .input,
           [TrgEdge.rise, .fall, .both].getD (edge j) .rise⟩
        trig.active := 0 })

/-- TRGSTAT in every sequencer state: a written 1 clears the latch of its line and nothing else changes, the TRG_EDGE flag
among them; a bit above the four latches is refused with BAD_ARG. -/
def Obligations.TrgstatWriteClearsLatches : Prop :=
  ∀ (s : State) (v : HW), busFree s = true →
    (v.toNat < 16 → Claims.Becomes (exec (.trgstatWrite v) s)
      { s with trig.latch := s.trig.latch &&& ~~~v.setWidth 4 }) ∧
    (16 ≤ v.toNat → Claims.Becomes (exec (.trgstatWrite v) s) (Claims.refusedAccess .badArg 0x61 s))

/-- An enabled descriptor `n` is permitted: BASE at most LIMIT, LIMIT inside the DRAM, no address shared with another
enabled descriptor. -/
def Claims.zonePermitted (s : State) (n : Fin 8) (z : Zone) : Prop :=
  z.enabled = true →
    z.base.toNat ≤ z.limit.toNat ∧ z.limit.toNat < 2 ^ (22 + s.mem.msize.toNat) ∧
    ∀ j : Fin 8, j ≠ n → s.mem.zones[j].enabled = true →
      z.limit.toNat < s.mem.zones[j].base.toNat ∨ s.mem.zones[j].limit.toNat < z.base.toNat

/-- ZONESEL takes 0 to 7 in every state. A write of ZBASE, ZLIMIT or ZATTR outside a run is refused with WBUF_PENDING while
writes are posted, then with MEMOP_BUSY while a FILL or COPY is in flight, then with BAD_ARG for a value out of range or a
descriptor that is not permitted; else the selected descriptor takes the value. -/
def Obligations.ZoneWritesKeepPermittedDescriptors : Prop :=
  ∀ (s : State) (v : HW), busFree s = true →
    (∀ k : Fin 8, v = BitVec.ofNat 16 k.val → Claims.Becomes (exec (.zoneselWrite v) s) { s with mem.zonesel := k }) ∧
    (8 ≤ v.toNat → Claims.Becomes (exec (.zoneselWrite v) s) (Claims.refusedAccess .badArg 0x74 s)) ∧
    (runActive s = false →
      let n := s.mem.zonesel
      let z := s.mem.zones[n]
      let base := Claims.word s.win.holdings[pairIndex .zbase] v
      let limit := Claims.word s.win.holdings[pairIndex .zlimit] v
      let attr : Zone := { z with
        kind := [ZoneKind.vector, .log, .data].getD (v.extractLsb' 0 2).toNat .vector
        wrun := v.getLsbD 2, enabled := v.getLsbD 3 }
      let judged := fun (r : ZoneReg) (o : BitVec 7) (inRange : Prop) (z' : Zone) =>
        let row := exec (.zoneDescriptorWrite r v) s
        (s.win.posted ≠ [] → Claims.Becomes row (Claims.refusedAccess .wbufPending o s)) ∧
        (s.win.posted = [] → s.win.memop ≠ .idle → Claims.Becomes row (Claims.refusedAccess .memopBusy o s)) ∧
        (s.win.posted = [] → s.win.memop = .idle → ¬ (inRange ∧ Claims.zonePermitted s n z') →
          Claims.Becomes row (Claims.refusedAccess .badArg o s)) ∧
        (s.win.posted = [] → s.win.memop = .idle → inRange → Claims.zonePermitted s n z' →
          Claims.Becomes row { s with mem.zones := s.mem.zones.set n z' })
      judged .zbase 0x76 (base < 2 ^ 25) { z with base := BitVec.ofNat 25 base } ∧
      judged .zlimit 0x78 (limit < 2 ^ 25) { z with limit := BitVec.ofNat 25 limit } ∧
      judged .zattr 0x79 (v.toNat < 16 ∧ v.extractLsb' 0 2 ≠ 3) attr)

/-- REFINT takes 64 to 65535 outside a run and begins a new interval. A written REFMISS bit of 1 clears REFMISS and no other
bit of MEMSTAT is written. A refresh timer expiry in READY with fewer than 8 owed adds 1; a completion frees the port and
takes 1 away. The end of initialization enters READY with nothing owed and sets MEM_READY (bit 12). -/
def Claims.MemoryControllerRowsFollowTheirRules : Prop :=
  ∀ (s : State) (v : HW),
    (busFree s = true → runActive s = false → 64 ≤ v.toNat →
      Claims.Becomes (exec (.refintWrite v) s) { s with mem.refint := v, mem.refTimer := 0 }) ∧
    (busFree s = true → runActive s = false → v.toNat < 64 →
      Claims.Becomes (exec (.refintWrite v) s) (Claims.refusedAccess .badArg 0x7A s)) ∧
    (busFree s = true →
      Claims.Becomes (exec (.memstatWrite v) s) { s with mem.refmiss := s.mem.refmiss && !v.getLsbD 7 }) ∧
    (s.mem.ready = true → s.mem.owed < 8 →
      Claims.Becomes (exec .refreshTimerExpiry s) { s with mem.owed := s.mem.owed + 1, mem.refTimer := 0 }) ∧
    (s.mem.grant = some .refresh →
      Claims.Becomes (exec .refreshCompletion s) { s with mem.grant := none, mem.owed := s.mem.owed - 1 }) ∧
    (s.mem.ready = false → s.resetLow = false →
      Claims.Becomes (exec .memInitEnd s)
        (Claims.withFlag 12 { s with mem.ready := true, mem.owed := 0, mem.refTimer := 0 }))

/-- A range of `n` halfwords at `a` lies inside the one enabled zone that holds its first and its last address, and in a
zone of a kind when that zone is of the kind. It lies in none when no enabled zone holds both, and when it would pass
0x1FFFFFF (R164). -/
def Claims.RangesLieInOneEnabledZone : Prop :=
  ∀ (s : State) (a n : Nat), ZonesDisjoint s → 0 < n →
    let holds := fun i : Fin 8 => s.mem.zones[i].enabled = true ∧ s.mem.zones[i].base.toNat ≤ a ∧
      a + (n - 1) ≤ s.mem.zones[i].limit.toNat
    (∀ i, holds i → rangeZone s a n = some s.mem.zones[i]) ∧
    ((∀ i, ¬ holds i) → rangeZone s a n = none) ∧
    (∀ k, rangeInKind s k a n = true ↔ ∃ i, holds i ∧ s.mem.zones[i].kind = k) ∧
    (0x2000000 ≤ a + (n - 1) → rangeZone s a n = none)

/-- REFINT, MEMSTAT, the refresh timer, a refresh's completion, the end of initialization, a missed refresh, and the zone a
range lies in. That MEM_INIT_END may come at any time in INIT and REFRESH_TIMER_EXPIRY at any count of the timer is the
model's choice (log entry 6). -/
def Obligations.MemoryControllerFollowsItsRules : Prop :=
  Claims.MemoryControllerRowsFollowTheirRules ∧ Claims.MissedRefreshUnfixesUnwrittenHalfwords ∧
    Claims.RangesLieInOneEnabledZone

/-- A read of the low halfword of a pair captures the whole value and answers its low half; the high halfword is then read
from the capture. A write of the low halfword is held, unchecked; for a read-only pair it is refused with NO_REG. -/
def Claims.PairAccessesCaptureAndHold : Prop :=
  ∀ (s : State) (p : Pair) (v : HW), busFree s = true →
    Claims.Becomes (exec (.pairLowRead p) s)
      { s with win.captures := s.win.captures.set (pairIndex p) (pairValue s p)
               win.busData := (pairValue s p).setWidth 16 } ∧
    (∀ pads trgPads, readRegister s pads trgPads (pairOffset p) = some ((pairValue s p).setWidth 16) ∧
      readRegister s pads trgPads (pairOffset p + 1) =
        some (s.win.captures[pairIndex p].extractLsb' 16 16)) ∧
    (pairReadOnly p = false → Claims.Becomes (exec (.pairLowWrite p v) s)
      { s with win.holdings := s.win.holdings.set (pairIndex p) v }) ∧
    (pairReadOnly p = true → Claims.Becomes (exec (.pairLowWrite p v) s)
      (Claims.refusedAccess .noReg (pairOffset p) s))

/-- The read-ahead buffer is discarded, a fetch requested is withdrawn, and one granted reads to its end unwanted (R183). -/
def Claims.readAheadDiscarded (s : State) : State :=
  { s with
    win.ahead := [], win.fetch := none
    mem.grant := match s.mem.grant with
      | some (.window (.fetch a n _)) => some (.window (.fetch a n false))
      | g => g }

/-- WADDR takes any 25-bit value and WINCTL 0 or 1, in every state, and each discards the read-ahead buffer; other values
are refused with BAD_ARG. -/
def Claims.WaddrAndWinctlWritesDiscardTheReadAhead : Prop :=
  ∀ (s : State) (v : HW), busFree s = true →
    let addr := Claims.word s.win.holdings[pairIndex .waddr] v
    Claims.Becomes (exec (.waddrWrite v) s)
      (if addr < 2 ^ 25 then { Claims.readAheadDiscarded s with win.waddr := BitVec.ofNat 25 addr }
       else Claims.refusedAccess .badArg 0x11 s) ∧
    Claims.Becomes (exec (.winctlWrite v) s)
      (if v.toNat < 2 then { Claims.readAheadDiscarded s with win.stride := v == 1 }
       else Claims.refusedAccess .badArg 0x13 s)

/-- The place of a value in a list of names, as its code. -/
def Claims.code {α : Type} [DecidableEq α] (names : List α) (x : α) (w : Nat) : BitVec w := BitVec.ofNat w (names.idxOf x)

/-- What the status registers read in every state with RESET_N high: their fields as Table 12-2 packs them, highest bits
first, with the codes of Tables 12-2, 12-4 and 12-5. -/
def Claims.StatusRegistersReadTheirFields : Prop :=
  ∀ (s : State) (pads : Vector HW 4) (trgPads : BitVec 4), s.resetLow = false → CountsInRange s → QueueBounded s →
    let rd := fun o : BitVec 7 => readRegister s pads trgPads o
    let bit := BitVec.ofBool
    let state := Claims.code [SeqState.idle, .armed, .running, .waiting, .paused, .stopping, .ended, .faulted] s.run.state 3
    let cause := Claims.code [Cause.none, .trigger, .levels, .notReady, .host, .step, .break0, .break1, .fail, .complete,
      .failLimit, .abort, .fault] s.run.cause 4
    let walker := Claims.code [WalkerState.stopped, .walking, .stallFull, .stallReady, .stallWait, .done] s.walker.st 3
    let wstate := Claims.code [WriterState.empty, .noRoom, .requesting, .writing] (writerState s) 2
    let error := Claims.code [Status.ok, .wrongState, .badArg, .segInUse, .configLocked, .wbufPending, .memopBusy,
      .outOfZone, .zoneLocked, .memNotReady, .illegalCmd, .badLog, .noReg]
    let pending : BitVec 7 := match s.walker.st, s.walker.pend with
      | .stallReady, some i => BitVec.ofNat 7 i.val
      | _, _ => 127
    let grant : BitVec 3 := match s.mem.grant with
      | none => 0
      | some .refresh => 1
      | some (.walker _) => 2
      | some .writer => 3
      | some (.window _) => 4
    let last := Claims.code [MopLast.none, .done, .cancelled, .abandoned] s.win.mopLast 2
    let mstate : BitVec 2 := match s.win.memop with
      | .idle => 0
      | .fill _ _ _ => 1
      | .copy _ _ _ _ => 2
    rd 0x03 = some (error s.win.cmdstat 16) ∧
    rd 0x0B = some (0#1 ++ s.win.winerr.offset ++ 0#4 ++ error s.win.winerr.code 4) ∧
    rd 0x14 = some (0#8 ++ BitVec.ofNat 4 s.win.posted.length ++ last ++ mstate) ∧
    rd 0x18 = some (0#3 ++ bit s.run.drainAborted ++ walker ++ bit (s.run.state = .paused ∧ s.run.suspended ≠ none) ++
      bit (s.run.state = .running ∧ s.app.stream = .priming) ++ cause ++ state) ∧
    rd 0x19 = some (0#1 ++ pending ++ 0#1 ++ BitVec.ofNat 3 s.walker.stack.length ++ BitVec.ofNat 4 s.queue.length) ∧
    rd 0x72 = some (0#8 ++ bit (s.run.state = .stopping) ++ wstate ++ BitVec.ofNat 5 s.log.fifo.length) ∧
    rd 0x7B = some (grant ++ BitVec.ofNat 5 s.mem.passover ++ bit s.mem.refmiss ++ BitVec.ofNat 4 s.mem.owed ++
      s.mem.msize ++ bit s.mem.ready)

/-- What the identification and the registers of the ports, the trigger lines, the segment table, the zones and the run's
records read in every state with RESET_N high, PINVAL and the input lines of TRGLVL giving the levels at the pads. An unassigned offset reads
0, and with RESET_N low no read is answered (R8, R190). -/
def Claims.BlockRegistersReadTheirState : Prop :=
  ∀ (s : State) (pads : Vector HW 4) (trgPads : BitVec 4),
    let rd := fun o : BitVec 7 => readRegister s pads trgPads o
    (s.resetLow = true → ∀ o, rd o = none) ∧
    (s.resetLow = false →
      let port := fun c : PortCfg => 0#8 ++ Claims.code [Park.hiz, .low, .high, .hold] c.park 2 ++
        Claims.code [CompareKind.eq, .ule, .uge, .sle, .sge] c.kind 3 ++
        Claims.code [Width.w1, .w4, .w8, .w16] c.width 2 ++ BitVec.ofBool c.enabled
      let z := s.mem.zones[s.mem.zonesel]
      let fault := Claims.code [FaultCode.none, .underrun, .badSegment, .badVector, .mixedLane, .fetchZone, .loopOverflow,
        .loopUnderflow, .loopUnclosed, .waitTimeout, .starveTimeout, .portStandby] s.run.fault.code 16
      rd 0x00 = some 0x3C40 ∧ rd 0x01 = some 0x0100 ∧
      (∀ p : Port, rd (BitVec.ofNat 7 (0x54 + p.val)) = some (port s.ports.cfg[p]) ∧
        rd (BitVec.ofNat 7 (0x58 + p.val)) = some pads[p]) ∧
      (∃ v, rd 0x60 = some v ∧ ∀ j : Line,
        v.extractLsb' (4 * j.val) 2 = Claims.code [TrgMode.input, .outMark, .outRun, .outFail] s.trig.lines[j].mode 2 ∧
        v.extractLsb' (4 * j.val + 2) 2 = Claims.code [TrgEdge.rise, .fall, .both] s.trig.lines[j].edge 2) ∧
      rd 0x61 = some (s.trig.latch.setWidth 16) ∧
      (∃ v, rd 0x62 = some v ∧ v.toNat < 16 ∧ ∀ j : Line,
        v.getLsbD j.val = if s.trig.lines[j].mode = .input then trgPads.getLsbD j.val else s.trig.active.getLsbD j.val) ∧
      (∀ j : Fin 4, ∃ v, rd (BitVec.ofNat 7 (0x4C + j.val)) = some v ∧
        ∀ k : Fin 16, v.getLsbD k.val = (s.seg.entries[16 * j.val + k.val])[6].getLsbD 0) ∧
      rd 0x50 = some (s.seg.lastrel.setWidth 16) ∧
      rd 0x74 = some (BitVec.ofNat 16 s.mem.zonesel.val) ∧
      rd 0x79 = some (0#12 ++ BitVec.ofBool z.enabled ++ BitVec.ofBool z.wrun ++
        Claims.code [ZoneKind.vector, .log, .data] z.kind 2) ∧
      rd 0x7A = some s.mem.refint ∧
      rd 0x1A = some fault ∧ rd 0x1B = some (s.run.fault.pos.seg.setWidth 16) ∧ rd 0x1C = some s.run.fault.pos.off ∧
      rd 0x1D = some (s.run.fault.pos.iter.setWidth 16) ∧ rd 0x1E = some s.run.fault.pos.pass ∧
      rd 0x24 = some (s.app.firstfail.tags.seg.setWidth 16) ∧ rd 0x25 = some s.app.firstfail.tags.off ∧
      rd 0x26 = some (s.app.firstfail.tags.iter.setWidth 16) ∧ rd 0x27 = some s.app.firstfail.tags.pass ∧
      rd 0x2A = some (s.app.passdone.seg.setWidth 16) ∧ rd 0x2B = some (s.app.passdone.iter.setWidth 16) ∧
      rd 0x2C = some s.app.passdone.pass ∧
      ∀ o ∈ ([0x0F, 0x17, 0x1F, 0x2D, 0x2E, 0x2F, 0x35, 0x36, 0x37, 0x51, 0x52, 0x53, 0x63, 0x73, 0x7C, 0x7D, 0x7E, 0x7F] :
        List (BitVec 7)), rd o = some 0)

/-- The registers that a write sets read what they hold: the commands' registers, the event unit's, the staging registers,
the settings, the breakpoint units and the selected timing set. -/
def Claims.WrittenRegistersReadBack : Prop :=
  ∀ (s : State) (pads : Vector HW 4) (trgPads : BitVec 4), s.resetLow = false →
    let rd := fun o : BitVec 7 => readRegister s pads trgPads o
    let t := s.tsets.sets[s.tsets.sel]
    rd 0x02 = some s.win.cmd ∧ rd 0x04 = some s.win.cmdres ∧
    (∀ i : Fin 6, rd (BitVec.ofNat 7 (0x05 + i.val)) = some s.win.carg[i]) ∧
    rd 0x0C = some (s.ev.flags.setWidth 16) ∧ rd 0x0D = some (s.ev.enables.setWidth 16) ∧
    rd 0x13 = some (if s.win.stride then 1 else 0) ∧
    rd 0x30 = some (s.seg.startseg.setWidth 16) ∧ rd 0x31 = some (BitVec.ofNat 16 s.run.armcfg.val) ∧
    rd 0x32 = some s.run.starveto ∧ rd 0x33 = some (if s.run.failPause then 1 else 0) ∧
    rd 0x34 = some s.run.faillimit ∧
    (∀ n : Fin 2, let b := s.run.bp[n]
      let reg := fun k : Nat => rd (BitVec.ofNat 7 (0x38 + 4 * n.val + k))
      reg 0 = some (0#12 ++ BitVec.ofBool b.iteren ++ BitVec.ofBool b.offen ++ BitVec.ofBool b.segen ++
        BitVec.ofBool b.enable) ∧
      reg 1 = some (b.seg.setWidth 16) ∧ reg 2 = some b.off ∧ reg 3 = some (b.iter.setWidth 16)) ∧
    (∀ i : Fin 12, rd (BitVec.ofNat 7 (0x40 + i.val)) = some s.seg.stage[i]) ∧
    rd 0x5C = some (BitVec.ofNat 16 s.tsets.sel.val) ∧ rd 0x5D = some t.per ∧ rd 0x5E = some t.drv ∧ rd 0x5F = some t.stb

/-- The accesses of pairs, the writes of WADDR and WINCTL, and what every other register reads. -/
def Obligations.WindowRegistersFollowTheirRules : Prop :=
  Claims.PairAccessesCaptureAndHold ∧ Claims.WaddrAndWinctlWritesDiscardTheReadAhead ∧
    Claims.StatusRegistersReadTheirFields ∧ Claims.BlockRegistersReadTheirState ∧ Claims.WrittenRegistersReadBack

/-- EVFLAG: a written 1 clears its flag. EVENABLE replaces the fourteen enables. EVCTL replaces MASTER. Bits above the
fourteen flags, or above the two fields of EVCTL, are refused with BAD_ARG. -/
def Obligations.EventUnitWritesFollowTheirRules : Prop :=
  ∀ (s : State) (v : HW), busFree s = true →
    Claims.Becomes (exec (.evflagWrite v) s)
      (if v.toNat < 2 ^ 14 then { s with ev.flags := s.ev.flags &&& ~~~v.setWidth 14 }
       else Claims.refusedAccess .badArg 0x0C s) ∧
    Claims.Becomes (exec (.evenableWrite v) s)
      (if v.toNat < 2 ^ 14 then { s with ev.enables := v.setWidth 14 } else Claims.refusedAccess .badArg 0x0D s) ∧
    Claims.Becomes (exec (.evctlWrite v) s)
      (if v.toNat < 4 then { s with ev.master := v.getLsbD 0 } else Claims.refusedAccess .badArg 0x0E s)

/-- IRQ_N is asserted exactly while MASTER is set and at least one flag is both set and enabled, and EVCTL.ASSERTED (bit 1)
reads the same condition; while RESET_N is low the line is not driven. -/
def Obligations.InterruptLineFollowsFlagsEnablesAndMaster : Prop :=
  ∀ (s : State) (pads : Vector HW 4) (trgPads : BitVec 4),
    let condition := s.ev.master = true ∧ ∃ k, s.ev.flags.getLsbD k = true ∧ s.ev.enables.getLsbD k = true
    (s.resetLow = true → irqAsserted s = false) ∧
    (s.resetLow = false → (irqAsserted s = true ↔ condition)) ∧
    (s.resetLow = false →
      ∃ v, readRegister s pads trgPads 0x0E = some v ∧ (v.getLsbD 1 = true ↔ condition) ∧ v.getLsbD 0 = s.ev.master)

/-! ## Segment commands -/

/-- The walker pushes a FAULT item and is DONE (R74). -/
def Claims.faultPushed (code : FaultCode) (tags : Tags) (s : State) : State :=
  { s with queue := s.queue ++ [.fault code tags], walker.st := .done, walker.next := .none }

/-- BASE of an entry (Table 12-8). -/
def Claims.base (e : SegImage) : Nat := Claims.word e[0] (e[1].extractLsb' 0 9 |>.setWidth 16)

/-- The walker's arrival at entry `i`, `lb` for a loop-back. One that is not ready stalls the walker in STALL_READY on it
(R57). A ready one is copied with the tags of offset 0 and iteration 0 (R57); malformed, it gives BAD_SEGMENT (R59); an
opening loop is pushed, the fifth giving LOOP_OVERFLOW (R60); then the WAIT item comes next, or the records, whose fetch
address takes BASE (R61, R62). -/
def Claims.arrived (i : SegIdx) (lb : Bool) (s : State) : State :=
  let e := s.seg.entries[i]
  let tags : Tags := ⟨BitVec.ofNat 7 i.val, 0, 0, s.walker.tags.pass⟩
  let t := { s with walker.st := .walking, walker.cur := some ⟨i, e⟩, walker.pend := none, walker.tags := tags }
  let onward := fun t : State =>
    if e[6].extractLsb' 4 2 = 0 then { t with walker.next := .fetch, walker.fetchAddr := Claims.base e }
    else { t with walker.next := .pushWait }
  if e[6].getLsbD 0 = false then
    { s with walker.st := .stallReady, walker.cur := none, walker.pend := some i, walker.next := .arrive i lb }
  else if malformed s e then Claims.faultPushed .badSegment tags t
  else if e[6].getLsbD 2 = false ∨ lb then onward t
  else if s.walker.stack.length < 4 then
    onward { t with walker.stack := ⟨i, e[5] - 1, 0⟩ :: s.walker.stack, walker.tags := { tags with pass := 0 } }
  else
    let pass := match s.walker.stack with
      | top :: _ => top.pass
      | [] => 0
    Claims.faultPushed .loopOverflow { tags with pass := pass } t

/-- The flags INUSE (bit 0) and PENDING (bit 1) that a segment command answers in CMDRES. -/
def Claims.segmentFlags (s : State) (n : SegIdx) : HW :=
  (if inUse s n then 1 else 0) ||| (if s.walker.st = .stallReady ∧ s.walker.pend = some n then 2 else 0)

/-- SEG_WRITE, SEG_READ, SEG_READY and SEG_UNREADY: an index of 64 or more is refused with BAD_ARG, and a command that would
change an entry in use with SEG_IN_USE. On the named entry SEG_READ copies it to staging, and SEG_UNREADY clears its
READY flag. SEG_WRITE copies staging to it and SEG_READY sets its READY flag; both then let the walker go on when it was
stalled on that entry and the entry is now ready. -/
def Claims.SegmentCommandsActOnTheNamedEntry : Prop :=
  ∀ s : State, busFree s = true →
    (64 ≤ s.win.carg[0].toNat → ∀ r ∈ [(Instr.segWrite, (0x10 : HW)), (.segRead, 0x11), (.segReady, 0x12),
        (.segUnready, 0x13)],
      Claims.Becomes (exec r.1 s) (Claims.refusedCmd r.2 .badArg s)) ∧
    ∀ n : SegIdx, s.win.carg[0].toNat = n.val →
      let e := s.seg.entries[n]
      let taken := fun code : HW => { Claims.accepted code s with win.cmdres := Claims.segmentFlags s n }
      let put := fun (code : HW) (e' : SegImage) => { taken code with seg.entries := s.seg.entries.set n e' }
      Claims.Becomes (exec .segRead s) { taken 0x11 with seg.stage := e } ∧
      (inUse s n = true → ∀ r ∈ [(Instr.segWrite, (0x10 : HW)), (.segReady, 0x12), (.segUnready, 0x13)],
        Claims.Becomes (exec r.1 s) (Claims.refusedCmd r.2 .segInUse s)) ∧
      (inUse s n = false →
        Claims.Becomes (exec .segUnready s) (put 0x13 (e.set 6 (e[6] &&& 0xFFFE#16))) ∧
        Claims.Becomes (exec .segReady s) (readyPending n (put 0x12 (e.set 6 (e[6] ||| 1#16)))) ∧
        Claims.Becomes (exec .segWrite s)
          (if s.seg.stage[6].getLsbD 0 then readyPending n (put 0x10 s.seg.stage) else put 0x10 s.seg.stage))

/-- Readying an entry changes nothing more unless the walker is in STALL_READY on it. Then the walker arrives at it in the
same event, the starvation timer is discarded, and a sequencer in WAITING(NOT_READY) enters RUNNING and PRIMING, with the
stream begun at once when the queue is primed. -/
def Claims.ReadyingThePendingEntryResumesTheWalker : Prop :=
  ∀ (s : State) (n : SegIdx) (lb : Bool),
    (¬ (s.walker.st = .stallReady ∧ s.walker.pend = some n) → readyPending n s = s) ∧
    (s.walker.st = .stallReady → s.walker.pend = some n → s.walker.next = .arrive n lb →
      let t := { walkerArrive n lb s with run.starve := none }
      (¬ (s.run.state = .waiting ∧ s.run.cause = .notReady) → readyPending n s = t) ∧
      (s.run.state = .waiting → s.run.cause = .notReady →
        let t := { t with run.state := .running, run.cause := .none, run.suspended := none, app.stream := .priming }
        readyPending n s = if primed t then taking t else t))

/-- An entry is in use exactly while it is the walker's current entry or named on the loop stack (R45). -/
def Claims.EntriesInUseAreCurrentOrOpen : Prop :=
  ∀ (s : State) (i : SegIdx),
    inUse s i = true ↔ (∃ c, s.walker.cur = some c ∧ c.idx = i) ∨ ∃ x ∈ s.walker.stack, x.entry = i

/-- An arrival at an entry stalls on one that is not ready, and takes and checks one that is. -/
def Claims.ArrivalIsTakenWholeOrStalls : Prop :=
  ∀ (s : State) (i : SegIdx) (lb : Bool), walkerArrive i lb s = Claims.arrived i lb s

/-- The four segment commands, what is in use, and what readying an entry does to a walker stalled on it. -/
def Obligations.SegmentCommandsFollowTheirRules : Prop :=
  Claims.SegmentCommandsActOnTheNamedEntry ∧ Claims.ReadyingThePendingEntryResumesTheWalker ∧
    Claims.EntriesInUseAreCurrentOrOpen ∧ Claims.ArrivalIsTakenWholeOrStalls

/-! ## The data port, posted writes and memory operations -/

/-- Where stride 1 moves WADDR (R181). -/
def Claims.waddrMoved (s : State) : Addr := if s.win.stride then s.win.waddr + 1 else s.win.waddr

/-- The fetch requested at address `a`: with stride 1 up to 4 halfwords, to the LIMIT of the zone that holds `a`, with
stride 0 one; no request when `a` is in no zone (R182). -/
def Claims.fetchAt (s : State) (a : Addr) : Option FetchReq :=
  match rangeZone s a.toNat 1 with
  | some z => some ⟨a.toNat, if s.win.stride then min 4 (z.limit.toNat - a.toNat + 1) else 1⟩
  | none => s.win.fetch

/-- A read is answered with `v`, the read-ahead left holding `rest`; with stride 1 an emptied buffer starts a background
fetch unless writes are posted (R182). -/
def Claims.answered (v : HW) (rest : List HW) (s : State) : State :=
  { s with
    win.busData := v, win.ahead := rest, win.access := none, win.waddr := Claims.waddrMoved s
    win.fetch := if s.win.stride ∧ rest = [] ∧ s.win.posted = [] then Claims.fetchAt s (Claims.waddrMoved s)
                 else s.win.fetch }

/-- A read of WDATA: refused in the order MEM_NOT_READY, MEMOP_BUSY, OUT_OF_ZONE and answered 0; stretched while writes are
posted; with stride 1 answered from the read-ahead buffer; else stretched for a fetch. -/
def Claims.DataPortReadsAreServedOrStretched : Prop :=
  ∀ s : State, busFree s = true →
    let inZone := rangeZone s s.win.waddr.toNat 1 ≠ none
    let refused := fun code => Claims.refusedAccess code 0x12 { s with win.busData := 0 }
    (s.mem.ready = false → Claims.Becomes (exec .wdataRead s) (refused .memNotReady)) ∧
    (s.mem.ready = true → s.win.memop ≠ .idle → Claims.Becomes (exec .wdataRead s) (refused .memopBusy)) ∧
    (s.mem.ready = true → s.win.memop = .idle → ¬ inZone → Claims.Becomes (exec .wdataRead s) (refused .outOfZone)) ∧
    (s.mem.ready = true → s.win.memop = .idle → inZone →
      (s.win.posted ≠ [] → Claims.Becomes (exec .wdataRead s) { s with win.access := some .wdataRead }) ∧
      (s.win.posted = [] → ∀ v rest, s.win.stride = true → s.win.ahead = v :: rest →
        Claims.Becomes (exec .wdataRead s) (Claims.answered v rest s)) ∧
      (s.win.posted = [] → s.win.stride = false ∨ s.win.ahead = [] →
        Claims.Becomes (exec .wdataRead s)
          { s with win.access := some .wdataRead
                   win.fetch := if s.win.fetch = none then Claims.fetchAt s s.win.waddr else s.win.fetch }))

/-- The end of a fetch grant: its halfwords are read; unwanted they are discarded, else they are the read-ahead buffer, from
which a read that is stretched for them is answered at once. -/
def Claims.ReadAheadFetchEndsTheStretchedRead : Prop :=
  ∀ (s t : State) (a n : Nat) (live : Bool) (xs : List HW), s.mem.grant = some (.window (.fetch a n live)) →
    readHalves n a { s with mem.grant := none } = (xs, t) →
    (live = false → Claims.Becomes (exec .readAheadFetch s) t) ∧
    (live = true → s.win.access ≠ some .wdataRead →
      Claims.Becomes (exec .readAheadFetch s) { t with win.ahead := xs, win.fetch := none }) ∧
    (∀ v rest, live = true → s.win.access = some .wdataRead → xs = v :: rest →
      Claims.Becomes (exec .readAheadFetch s) (Claims.answered v rest { t with win.fetch := none }))

/-- Reads of WDATA and the fetch grants that serve them. -/
def Obligations.DataPortReadsAndFetches : Prop :=
  Claims.DataPortReadsAreServedOrStretched ∧ Claims.ReadAheadFetchEndsTheStretchedRead

/-- A write of WDATA: stretched with 8 writes posted; else refused in the order MEM_NOT_READY, MEMOP_BUSY, OUT_OF_ZONE,
ZONE_LOCKED (a run is active and W_RUN is clear); else posted at the tail with the read-ahead discarded and WADDR moved
on. -/
def Claims.DataPortWritesArePostedOrStretched : Prop :=
  ∀ (s : State) (v : HW), busFree s = true →
    let row := exec (.wdataWrite v) s
    let zone := rangeZone s s.win.waddr.toNat 1
    let refused := fun code => Claims.refusedAccess code 0x12 s
    (8 ≤ s.win.posted.length → Claims.Becomes row { s with win.access := some (.wdataWrite v) }) ∧
    (s.win.posted.length < 8 →
      (s.mem.ready = false → Claims.Becomes row (refused .memNotReady)) ∧
      (s.mem.ready = true → s.win.memop ≠ .idle → Claims.Becomes row (refused .memopBusy)) ∧
      (s.mem.ready = true → s.win.memop = .idle → zone = none → Claims.Becomes row (refused .outOfZone)) ∧
      (∀ z, s.mem.ready = true → s.win.memop = .idle → zone = some z → runActive s = true → z.wrun = false →
        Claims.Becomes row (refused .zoneLocked)) ∧
      (∀ z, s.mem.ready = true → s.win.memop = .idle → zone = some z → runActive s = false ∨ z.wrun = true →
        Claims.Becomes row
          { Claims.readAheadDiscarded s with
            win.posted := s.win.posted ++ [⟨s.win.waddr, v⟩], win.waddr := Claims.waddrMoved s }))

/-- A drain grant writes the next halfword of its unit, and that write leaves the buffer; with the last the grant ends. A
stretched write then takes place as a write of WDATA does, in the freed place, and a stretched read requests its fetch once
the buffer is empty. A unit left by a SOFT_RESET only writes. -/
def Claims.PostedWritesDrainInOrder : Prop :=
  ∀ (s : State) (w : PostedWrite) (ws : List PostedWrite) (live : Bool),
    s.mem.grant = some (.window (.drain (w :: ws) live)) → s.resetLow = false → CountsInRange s →
    let row := exec .postedWriteDrain s
    let t := { s with
      mem.grant := if ws = [] then none else some (.window (.drain ws live))
      dram.cells := s.dram.cells.write w.addr.toNat w.value }
    let u := { t with win.posted := s.win.posted.drop 1 }
    (live = false → Claims.Becomes row t) ∧
    (live = true →
      ((∀ v, s.win.access ≠ some (.wdataWrite v)) → s.win.access ≠ some .wdataRead → Claims.Becomes row u) ∧
      (∀ v, s.win.access = some (.wdataWrite v) → row = exec (.wdataWrite v) { u with win.access := none }) ∧
      (s.win.access = some .wdataRead → u.win.posted ≠ [] → Claims.Becomes row u) ∧
      (s.win.access = some .wdataRead → u.win.posted = [] →
        Claims.Becomes row
          { u with win.fetch := if s.win.fetch = none then Claims.fetchAt s s.win.waddr else s.win.fetch }))

/-- Writes of WDATA and the drain grants that carry them out. That a drain grant takes one row for each of
its halfwords is the model's choice (log entry 10). -/
def Obligations.DataPortWritesAndDrains : Prop :=
  Claims.DataPortWritesArePostedOrStretched ∧ Claims.PostedWritesDrainInOrder

/-- The checks that FILL, COPY and PATCH share, in order, given those of their own on the values (BAD_ARG), the ranges in
one zone (OUT_OF_ZONE) and the destination's zone (ZONE_LOCKED). -/
def Claims.memoryChecks (s : State) (bad : Bool) (zones : List (Option Zone)) (dst : Option Zone) : Option Status :=
  if s.mem.ready = false then some .memNotReady
  else if s.win.memop ≠ .idle then some .memopBusy
  else if s.win.posted ≠ [] then some .wbufPending
  else if bad then some .badArg
  else if none ∈ zones then some .outOfZone
  else match dst with
    | some z => if runActive s = true ∧ z.wrun = false then some .zoneLocked else none
    | none => none

/-- The value of two argument registers, low halfword first. -/
def Claims.args (s : State) (i j : Fin 6) : Nat := Claims.word s.win.carg[i] s.win.carg[j]

/-- An accepted FILL or COPY: the read-ahead is discarded, MOPCOUNT and CMDRES are 0, and the operation is in flight (R187).
A burst left by a SOFT_RESET, granted or still to write, is no longer counted (log entry 12); every other grant is kept. -/
def Claims.memopBegun (code : HW) (op : MemOp) (s : State) : State :=
  let t := Claims.readAheadDiscarded (Claims.accepted code s)
  { t with win.cmdres := 0, win.memop := op, win.mopCount := 0
           mem.grant := match t.mem.grant with
             | some (.window (.fill d n v (.orphan _))) => some (.window (.fill d n v (.orphan false)))
             | some (.window (.copyRead a d n (.orphan _))) => some (.window (.copyRead a d n (.orphan false)))
             | some (.window (.copyWrite d xs (.orphan _))) => some (.window (.copyWrite d xs (.orphan false)))
             | g => g
           win.orphan := s.win.orphan.map fun o => { o with counted := false } }

/-- FILL and COPY: refused by the first of their checks that fails; else the read-ahead is discarded, MOPCOUNT and CMDRES
take 0, the operation is in flight, and a burst left by a SOFT_RESET is no longer counted. A COPY whose ranges share an
address, an address above 0x1FFFFFF and a length of 0 are BAD_ARG. -/
def Claims.FillAndCopyAreCheckedAndBegun : Prop :=
  ∀ s : State, busFree s = true →
    let dst := Claims.args s 0 1
    let len := Claims.args s 2 3
    let fill := Claims.memoryChecks s (decide (2 ^ 25 ≤ dst ∨ len = 0)) [rangeZone s dst len] (rangeZone s dst len)
    let csrc := Claims.args s 0 1
    let cdst := Claims.args s 2 3
    let clen := Claims.args s 4 5
    let copy := Claims.memoryChecks s
      (decide (2 ^ 25 ≤ csrc ∨ 2 ^ 25 ≤ cdst ∨ clen = 0 ∨ (csrc < cdst + clen ∧ cdst < csrc + clen)))
      [rangeZone s cdst clen, rangeZone s csrc clen] (rangeZone s cdst clen)
    (∀ code, fill = some code → Claims.Becomes (exec .fill s) (Claims.refusedCmd 0x20 code s)) ∧
    (fill = none → Claims.Becomes (exec .fill s) (Claims.memopBegun 0x20 (.fill dst len s.win.carg[4]) s)) ∧
    (∀ code, copy = some code → Claims.Becomes (exec .copy s) (Claims.refusedCmd 0x21 code s)) ∧
    (copy = none → Claims.Becomes (exec .copy s) (Claims.memopBegun 0x21 (.copy csrc cdst clen none) s))

/-- The end of a write burst of `n` halfwords of the operation in flight: MOPCOUNT counts it; a stretched MEMOP_CANCEL ends
the operation CANCELLED with the count in CMDRES; at the full length it is DONE with MEMOP_DONE (bit 10) (R186, R187). -/
def Claims.burstCounted (n : Nat) (s : State) : State :=
  let count := s.win.mopCount + BitVec.ofNat 32 n
  let t := { s with win.mopCount := count }
  if s.win.access = some .cancel then
    { t with win.memop := .idle, win.mopLast := .cancelled, win.access := none, win.cmdstat := .ok
             win.cmdres := count.setWidth 16 }
  else if count.toNat = s.win.memop.len then Claims.withFlag 10 { t with win.memop := .idle, win.mopLast := .done }
  else t

/-- The bursts of FILL and COPY: a FILL burst writes its value, a COPY's read grant holds what it read and its write grant
writes it; a write burst is then counted. A burst that a SOFT_RESET left to end still writes, and is counted unless a new
operation has begun. -/
def Obligations.BurstsMoveAndCountHalfwords : Prop :=
  ∀ s : State, s.resetLow = false →
    let free := { s with mem.grant := none }
    (∀ d n v, s.mem.grant = some (.window (.fill d n v .live)) →
      Claims.Becomes (exec .fillBurst s) (Claims.burstCounted n (writeHalves d (List.replicate n v) free))) ∧
    (∀ d n v c, s.mem.grant = some (.window (.fill d n v (.orphan c))) →
      Claims.Becomes (exec .fillBurst s)
        { writeHalves d (List.replicate n v) free with
          win.mopCount := if c then s.win.mopCount + BitVec.ofNat 32 n else s.win.mopCount }) ∧
    (∀ a d n src dst len held xs t, s.mem.grant = some (.window (.copyRead a d n .live)) →
      s.win.memop = .copy src dst len held → readHalves n a free = (xs, t) →
      Claims.Becomes (exec .copyReadBurst s) { t with win.memop := .copy src dst len (some xs) }) ∧
    (∀ a d n c xs t, s.mem.grant = some (.window (.copyRead a d n (.orphan c))) → readHalves n a free = (xs, t) →
      Claims.Becomes (exec .copyReadBurst s) { t with win.orphan := some ⟨d, xs, c⟩ }) ∧
    (∀ d xs src dst len held, s.mem.grant = some (.window (.copyWrite d xs .live)) →
      s.win.memop = .copy src dst len held →
      Claims.Becomes (exec .copyWriteBurst s)
        (Claims.burstCounted xs.length { writeHalves d xs free with win.memop := .copy src dst len none })) ∧
    (∀ d xs c, s.mem.grant = some (.window (.copyWrite d xs (.orphan c))) →
      Claims.Becomes (exec .copyWriteBurst s)
        { writeHalves d xs free with
          win.orphan := none
          win.mopCount := if c then s.win.mopCount + BitVec.ofNat 32 xs.length else s.win.mopCount })

/-- PATCH: refused by the first of its checks that fails; else the read-ahead is discarded and the access is held for one
grant. At the grant's end the halfword is (old AND mask) OR mask, CMDRES holds the old one and the access ends. -/
def Obligations.PatchModifiesOneHalfword : Prop :=
  ∀ s : State,
    let a := Claims.args s 0 1
    let checks := Claims.memoryChecks s (decide (2 ^ 25 ≤ a)) [rangeZone s a 1] (rangeZone s a 1)
    (∀ code, busFree s = true → checks = some code →
      Claims.Becomes (exec .patch s) (Claims.refusedCmd 0x22 code s)) ∧
    (busFree s = true → checks = none →
      Claims.Becomes (exec .patch s)
        { Claims.readAheadDiscarded s with
          win.cmd := 0x22, win.patch := some ⟨a, s.win.carg[2], s.win.carg[3]⟩, win.access := some .patch }) ∧
    (∀ r old t, s.mem.grant = some (.window (.patch r)) → readHalf r.addr { s with mem.grant := none } = (old, t) →
      Claims.Becomes (exec .patchGrant s)
        { t with dram.cells := t.dram.cells.write r.addr (old &&& r.andMask ||| r.orMask)
                 win.cmdstat := .ok, win.cmdres := old, win.patch := none, win.access := none })

/-- MEMOP_CANCEL: refused with WRONG_STATE when no operation is in flight; with no burst in progress the operation ends
CANCELLED at once with the count in CMDRES; during a burst the access is held until the burst has ended. -/
def Claims.MemopCancelEndsTheOperation : Prop :=
  ∀ s : State, busFree s = true →
    (s.win.memop = .idle → Claims.Becomes (exec .memopCancel s) (Claims.refusedCmd 0x23 .wrongState s)) ∧
    (s.win.memop ≠ .idle → burstInProgress s = false →
      Claims.Becomes (exec .memopCancel s)
        { Claims.accepted 0x23 s with
          win.cmdres := s.win.mopCount.setWidth 16, win.memop := .idle, win.mopLast := .cancelled }) ∧
    (s.win.memop ≠ .idle → burstInProgress s = true →
      Claims.Becomes (exec .memopCancel s) { s with win.cmd := 0x23, win.access := some .cancel })

/-- A burst is in progress during the grant of a burst of the operation in flight, and for a COPY also while it holds what
its read grant has read (R186). A burst left by a SOFT_RESET is none of them. -/
def Claims.BurstsInProgressAreGrantedOrHeld : Prop :=
  ∀ s : State,
    let granted := ∃ u, s.mem.grant = some (.window u) ∧
      ((∃ d n v, u = .fill d n v .live) ∨ (∃ a d n, u = .copyRead a d n .live) ∨ ∃ d xs, u = .copyWrite d xs .live)
    (s.win.memop = .idle → burstInProgress s = false) ∧
    (∀ dst len v, s.win.memop = .fill dst len v → (burstInProgress s = true ↔ granted)) ∧
    (∀ src dst len held, s.win.memop = .copy src dst len held → (burstInProgress s = true ↔ held ≠ none ∨ granted))

/-- FILL and COPY are checked and begun, and MEMOP_CANCEL ends them. That the bursts of a FILL write CARG4 as it stood at the
acceptance is the model's choice (log entry 23); that a burst left by a SOFT_RESET is counted until a FILL or COPY is
accepted is its reading (log entry 12). -/
def Obligations.MemoryOperationsBeginAndAreCancelled : Prop :=
  Claims.FillAndCopyAreCheckedAndBegun ∧ Claims.MemopCancelEndsTheOperation ∧ Claims.BurstsInProgressAreGrantedOrHeld

/-! ## The walker -/

/-- The walker pushes an item and goes on, or stalls in STALL_FULL with 8 items (R72). -/
def Claims.pushed (it : Item) (s : State) : State :=
  { s with queue := s.queue ++ [it], walker.st := if 8 ≤ s.queue.length + 1 then .stallFull else .walking }

/-- Entry `i` stops being in use by the walker's own movement: it is released, READY cleared, LASTREL naming it and
SEG_RELEASED (bit 7) set, unless the loop stack names it or its KEEP flag is set (R46). -/
def Claims.released (i : SegIdx) (s : State) : State :=
  let e := s.seg.entries[i]
  if (∃ x ∈ s.walker.stack, x.entry = i) ∨ e[6].getLsbD 1 = true then s
  else Claims.withFlag 7
    { s with seg.entries := s.seg.entries.set i (e.set 6 (e[6] &&& 0xFFFE#16))
             seg.lastrel := BitVec.ofNat 7 i.val }

/-- Table 3-2: the conditions under which an entry is malformed. -/
def Obligations.EntryCheckFindsMalformedEntries : Prop :=
  ∀ (s : State) (e : SegImage),
    let names := fun n : Nat => n < 64 ∨ n = 127
    let next := (e[4].extractLsb' 0 7).toNat
    let alt := (e[4].extractLsb' 8 7).toNat
    let rept := (e[3].extractLsb' 0 13).toNat
    let wait := (e[6].extractLsb' 4 2).toNat
    malformed s e = true ↔
      e[1].extractLsb' 9 7 ≠ 0 ∨ e[3].extractLsb' 13 3 ≠ 0 ∨ e[4].getLsbD 7 = true ∨ e[4].getLsbD 15 = true ∨
      e[6].getLsbD 15 = true ∨ e[10].extractLsb' 4 12 ≠ 0 ∨ e[11].extractLsb' 9 7 ≠ 0 ∨
      wait = 3 ∨ e[11].extractLsb' 3 2 = 3 ∨ 2 ≤ (e[6].extractLsb' 6 2).toNat ∨
      e[2] = 0 ∨ rept = 0 ∨ 4096 < rept ∨ ¬ names next ∨ ¬ names alt ∨
      (e[6].getLsbD 2 = true ∧ e[5].toNat < 2) ∨
      (wait ≠ 0 ∧ (s.tsets.sets[(e[6].extractLsb' 12 3).toFin]).valid = false) ∨
      (wait = 1 ∧ s.trig.lines[(e[6].extractLsb' 8 2).toFin].mode ≠ .input) ∨
      (wait = 2 ∧ s.ports.cfg[(e[6].extractLsb' 10 2).toFin].enabled = false)

/-- WALKER_ARRIVAL: at an entry that is not ready the walker stalls on it. At a ready one it takes a copy and the tags of
offset 0 and iteration 0; a malformed entry gives BAD_SEGMENT; an opening loop is pushed, with the fifth giving
LOOP_OVERFLOW; then come the WAIT item or the records. -/
def Claims.WalkerArrivalTakesTheEntry : Prop :=
  ∀ (s : State) (i : SegIdx) (lb : Bool), s.walker.st = .walking → s.walker.next = .arrive i lb →
    Claims.Becomes (exec .walkerArrival s) (Claims.arrived i lb s)

/-- WAIT_ITEM_PUSH: the WAIT item carries the wait's fields and the timing of WTSET; behind a SKIP wait the walker is in
STALL_WAIT, else its records come next and the fetch address takes BASE. -/
def Claims.WaitItemIsPushedBeforeTheRecords : Prop :=
  ∀ (s : State) (c : CurrentEntry), s.walker.st = .walking → s.walker.next = .pushWait → s.walker.cur = some c →
    let e := c.img
    let skip := decide (e[6].extractLsb' 6 2 = 1)
    let w : WaitItem :=
      { kind := if e[6].extractLsb' 4 2 = 1 then .trigger else .levels
        line := (e[6].extractLsb' 8 2).toFin, mport := (e[6].extractLsb' 10 2).toFin, mexp := e[7], mcare := e[8]
        wtset := (e[6].extractLsb' 12 3).toFin, timing := s.tsets.sets[(e[6].extractLsb' 12 3).toFin]
        timeout := e[10].extractLsb' 0 4 ++ e[9], skip := skip }
    let addr := if skip then s.walker.fetchAddr else Claims.base e
    let t := Claims.pushed (.wait w s.walker.tags) { s with walker.next := .fetch, walker.fetchAddr := addr }
    Claims.Becomes (exec .waitItemPush s) (if skip then { t with walker.st := .stallWait } else t)

/-- The walker's arrival at an entry, and the push of its WAIT item. -/
def Obligations.WalkerArrivalAndWaitItem : Prop :=
  Claims.WalkerArrivalTakesTheEntry ∧ Claims.WaitItemIsPushedBeforeTheRecords

/-- RECORD_FETCH: a header or a record outside every VECTOR zone gives FETCH_ZONE, the former without a grant; a record that
fails a decode check gives that check's fault; else its VECTOR item is pushed with the position's tags, and the fetch
address moves past the record, to BASE at the start of each further iteration, while the position advances over COUNT and
REPEAT. A grant that outlived its walk ends with nothing pushed, whether the walker is stopped or a new run's walk has begun;
that a FETCH_ZONE of the new walk comes before that end is the model's choice (log entry 24). -/
def Obligations.RecordFetchDecodesAndPushesOneVector : Prop :=
  ∀ (s : State) (c : CurrentEntry),
    (s.mem.grant = some (.walker false) →
      ¬ (s.walker.st = .walking ∧ s.walker.next = .fetch ∧ s.walker.cur ≠ none ∧
        rangeInKind s .vector s.walker.fetchAddr 1 = false) →
      Claims.Becomes (exec .recordFetch s) { s with mem.grant := none }) ∧
    (s.walker.st = .walking → s.walker.next = .fetch → s.walker.cur = some c →
      let a := s.walker.fetchAddr
      let tags := s.walker.tags
      let e := c.img
      let count := e[2].toNat
      let rept := (e[3].extractLsb' 0 13).toNat
      (rangeInKind s .vector a 1 = false →
        Claims.Becomes (exec .recordFetch s) (Claims.faultPushed .fetchZone tags s)) ∧
      ∀ h t, rangeInKind s .vector a 1 = true → s.mem.grant = some (.walker true) →
        readHalf a { s with mem.grant := none } = (h, t) →
        let len := 1 + 3 * ((List.range 4).filter fun p => h.getLsbD (3 + p)).length
        (rangeInKind s .vector a len = false →
          Claims.Becomes (exec .recordFetch s) (Claims.faultPushed .fetchZone tags t)) ∧
        ∀ body u, rangeInKind s .vector a len = true → readHalves (len - 1) (a + 1) t = (body, u) →
          (∀ code, decodeFault s h (recordParts h body) = some code →
            Claims.Becomes (exec .recordFetch s) (Claims.faultPushed code tags u)) ∧
          (decodeFault s h (recordParts h body) = none →
            let v := decodeVector s e tags.iter.toNat h (recordParts h body)
            let it := Item.vector v tags (decide (tags.off.toNat + 1 = count))
            Claims.Becomes (exec .recordFetch s)
              (Claims.pushed it
                (if tags.off.toNat + 1 < count then
                  { u with walker.tags := { tags with off := tags.off + 1 }, walker.fetchAddr := a + len }
                 else if tags.iter.toNat + 1 < rept then
                  { u with walker.tags := { tags with off := 0, iter := tags.iter + 1 }
                           walker.fetchAddr := Claims.base e }
                 else { u with walker.next := .leave, walker.fetchAddr := a + len }))))

/-- The port parts of a record stand behind its header in the order A to D, each of three halfwords DIR, DATA, CARE, for the
ports of PRESENT alone (R18). -/
def Claims.PortPartsStandInPortOrder : Prop :=
  ∀ (h : HW) (body : List HW) (p : Port),
    let before := ((List.range p.val).filter fun q => h.getLsbD (3 + q)).length
    (h.getLsbD (3 + p.val) = false → (recordParts h body)[p] = none) ∧
    (∀ dir data care rest, h.getLsbD (3 + p.val) = true → body.drop (3 * before) = dir :: data :: care :: rest →
      (recordParts h body)[p] = some ⟨dir, data, care⟩)

/-- The decoded vector of Table 2-8: the timing set that TSET names with its values at decode, each present port's part with
its DATA modified for the repeat iteration, and MARK and CAPTURE of the header. -/
def Claims.DecodedVectorHoldsTheRecord : Prop :=
  ∀ (s : State) (e : SegImage) (k : Nat) (h : HW) (parts : Vector (Option PortPart) 4),
    let v := decodeVector s e k h parts
    v.tset.val = (h.extractLsb' 0 3).toNat ∧ v.timing = s.tsets.sets[(h.extractLsb' 0 3).toFin] ∧
    v.mark = h.getLsbD 7 ∧ v.capture = h.getLsbD 8 ∧
    ∀ p : Port,
      (parts[p] = none → v.parts[p] = none) ∧
      (∀ q, parts[p] = some q → v.parts[p] = some (modifyPart e s.ports.cfg[p] p k q))

/-- The decode checks of Table 2-4, in order: reserved header bits and an invalid timing set give BAD_VECTOR, a present port
in standby PORT_STANDBY, a MIXED lane of a magnitude kind MIXED_LANE, and else the record passes. -/
def Claims.ChecksFailInOrder : Prop :=
  ∀ (s : State) (h : HW) (parts : Vector (Option PortPart) 4),
    let t := s.tsets.sets[(h.extractLsb' 0 3).toFin]
    let bad := 512 ≤ h.toNat ∨ ¬ (4 ≤ t.per.toNat ∧ t.drv.toNat < t.per.toNat ∧ t.stb.toNat < t.per.toNat)
    let standby := ∃ p : Port, parts[p] ≠ none ∧ s.ports.cfg[p].enabled = false
    let mixed := ∃ (p : Port) (q : PortPart) (i : Nat), parts[p] = some q ∧ s.ports.cfg[p].kind ≠ .eq ∧
      i < 16 / s.ports.cfg[p].width.pins ∧ laneClass s.ports.cfg[p].width.pins q i = .mixed
    (decodeFault s h parts = some .badVector ↔ bad) ∧
    (decodeFault s h parts = some .portStandby ↔ ¬ bad ∧ standby) ∧
    (decodeFault s h parts = some .mixedLane ↔ ¬ bad ∧ ¬ standby ∧ mixed) ∧
    (decodeFault s h parts = none ↔ ¬ bad ∧ ¬ standby ∧ ¬ mixed)

/-- The port parts of a record, the checks that decide its fault in their order, and the vector of a record that passes
them. What the modifier does to a part is stated in ModifierReplacesTargetPinsOnly. -/
def Obligations.DecodeChecksDecideTheFaultInOrder : Prop :=
  Claims.ChecksFailInOrder ∧ Claims.PortPartsStandInPortOrder ∧ Claims.DecodedVectorHoldsTheRecord

/-- The walker goes from entry `i` to what `dest` names: the entry is released, then the next arrival is due, or the END
item is pushed, its tags all 0, and the walker is DONE (R65, R69, R71). -/
def Claims.left (i : SegIdx) (dest : Nat) (s : State) : State :=
  let t := Claims.released i s
  if h : dest < 64 then { t with walker.st := .walking, walker.cur := none, walker.next := .arrive ⟨dest, h⟩ false }
  else { t with queue := t.queue ++ [.endChain ⟨0, 0, 0, 0⟩], walker.st := .done, walker.next := .none, walker.cur := none }

/-- WALKER_LEAVING: an entry that closes a loop needs one open (LOOP_UNDERFLOW), goes back to its opener while passes
remain, and else pops it, releasing the opener. Then the walker follows NEXT, or ALT after a timed-out SKIP wait, to an
entry or to the chain's end, which with a loop open is LOOP_UNCLOSED. ALT closes a loop only from the entry that is its
own opener. -/
def Obligations.WalkerLeavingFollowsTheChain : Prop :=
  ∀ (s : State) (c : CurrentEntry) (alt : Bool), s.resetLow = false → s.walker.st = .walking →
    s.walker.next = (if alt then .leaveAlt else .leave) → s.walker.cur = some c →
    let e := c.img
    let i := c.idx
    let dest := (if alt then e[4].extractLsb' 8 7 else e[4].extractLsb' 0 7).toNat
    let tags := if alt then ⟨BitVec.ofNat 7 i.val, 0, 0, s.walker.tags.pass⟩ else s.walker.tags
    let closes := e[6].getLsbD 3 = true ∧
      (alt = true → e[6].getLsbD 2 = true ∧ ∃ top rest, s.walker.stack = top :: rest ∧ top.entry = i)
    dest < 64 ∨ dest = 127 →
    (¬ closes → dest < 64 ∨ s.walker.stack = [] → Claims.Becomes (exec .walkerLeaving s) (Claims.left i dest s)) ∧
    (¬ closes → dest = 127 → s.walker.stack ≠ [] →
      Claims.Becomes (exec .walkerLeaving s) (Claims.faultPushed .loopUnclosed tags s)) ∧
    (closes → s.walker.stack = [] →
      Claims.Becomes (exec .walkerLeaving s) (Claims.faultPushed .loopUnderflow tags s)) ∧
    (∀ top rest, closes → s.walker.stack = top :: rest → top.remaining ≠ 0 →
      let top' := { top with remaining := top.remaining - 1, pass := top.pass + 1 }
      let t := Claims.released i { s with walker.stack := top' :: rest, walker.tags.pass := top'.pass }
      Claims.Becomes (exec .walkerLeaving s)
        { t with walker.st := .walking, walker.cur := none, walker.next := .arrive top.entry true }) ∧
    (∀ top rest, closes → s.walker.stack = top :: rest → top.remaining = 0 →
      (dest = 127 → rest ≠ [] →
        Claims.Becomes (exec .walkerLeaving s) (Claims.faultPushed .loopUnclosed tags s)) ∧
      (dest < 64 ∨ rest = [] →
        let pass := match rest with
          | [] => 0
          | x :: _ => x.pass
        let t := { s with walker.stack := rest, walker.tags.pass := pass }
        Claims.Becomes (exec .walkerLeaving s)
          (Claims.left i dest (if top.entry = i then t else Claims.released top.entry t))))

/-! ## Applying vectors -/

/-- The head item leaves the queue, and a walker in STALL_FULL goes on (R72). -/
def Claims.headTaken (rest : List Item) (s : State) : State :=
  { s with queue := rest, walker.st := if s.walker.st = .stallFull then .walking else s.walker.st }

/-- The sequencer enters PAUSED with a cause; PAUSED (bit 2) is set (R107). -/
def Claims.paused (cause : Cause) (s : State) : State :=
  Claims.withFlag 2 { s with app.stream := .held, run.state := .paused, run.cause := cause, run.suspended := none }

/-- The sequencer enters WAITING with a cause; WAITING (bit 3) is set. -/
def Claims.waiting (cause : Cause) (s : State) : State :=
  Claims.withFlag 3 { s with app.stream := .held, run.state := .waiting, run.cause := cause, run.suspended := none }

/-- The trigger lines in a mode. -/
def Claims.linesOf (s : State) (m : TrgMode) : BitVec 4 :=
  BitVec.ofNat 4 ((List.finRange 4).foldl (fun n j => if s.trig.lines[j].mode = m then n + 2 ^ j.val else n) 0)

/-- A breakpoint unit matches an item's tags: it is enabled, and each comparison that is switched on holds (R110). -/
def Claims.breaks (b : Breakpoint) (t : Tags) : Prop :=
  b.enable = true ∧ (b.segen = true → b.seg.setWidth 7 = t.seg) ∧ (b.offen = true → b.off = t.off) ∧
    (b.iteren = true → b.iter = t.iter)

/-- The taking (Table 5-2): a VECTOR begins its period, unless a breakpoint pauses before it; a WAIT begins its wait; END
stops the run COMPLETE; FAULT stops it with its code and position; an empty queue waits for a segment that is not ready,
and is else an UNDERRUN. -/
def Obligations.TakingActsByTheHeadItem : Prop :=
  ∀ (s : State), s.resetLow = false →
    (∀ v t eop rest, s.queue = .vector v t eop :: rest →
      let brk := s.app.skipOnce = false
      (brk → Claims.breaks s.run.bp[0] t →
        taking s = Claims.paused .break0 { s with app.skipOnce := true, run.stepReq := false }) ∧
      (brk → ¬ Claims.breaks s.run.bp[0] t → Claims.breaks s.run.bp[1] t →
        taking s = Claims.paused .break1 { s with app.skipOnce := true, run.stepReq := false }) ∧
      (¬ brk ∨ (¬ Claims.breaks s.run.bp[0] t ∧ ¬ Claims.breaks s.run.bp[1] t) →
        taking s =
          { Claims.headTaken rest s with
            app.stream := .streaming, app.skipOnce := false, app.vcount := s.app.vcount + 1
            app.period := some ⟨v, t, eop, s.app.vcount, 0, false, false⟩
            run.state := .running, run.cause := .none, run.suspended := none
            run.pauseStep := s.run.pauseStep || s.run.stepReq, run.stepReq := false
            trig.active := s.trig.active &&& ~~~Claims.linesOf s .outMark &&& ~~~Claims.linesOf s .outFail })) ∧
    (∀ w t rest, s.queue = .wait w t :: rest →
      taking s = Claims.waiting (match w.kind with | .trigger => .trigger | .levels => .levels)
        { Claims.headTaken rest s with app.wait := some ⟨w, t, w.timeout, 0, false, 0, 0⟩ }) ∧
    (∀ t rest, s.queue = .endChain t :: rest → taking s = Claims.stopping .complete s.run.fault s) ∧
    (∀ code t rest, s.queue = .fault code t :: rest → taking s = Claims.stopping .fault ⟨code, t⟩ s) ∧
    (s.queue = [] → s.walker.st = .stallReady →
      taking s = Claims.waiting .notReady { s with run.starve := some 0 }) ∧
    (s.queue = [] → s.walker.st ≠ .stallReady →
      taking s = Claims.stopping .fault
        ⟨.underrun, match s.walker.next with
          | .arrive i _ => ⟨BitVec.ofNat 7 i.val, 0, 0, s.walker.tags.pass⟩
          | _ => s.walker.tags⟩ s)

/-- STREAM_BEGIN in PRIMING with the queue primed is the taking. PERIOD_END, once the drive edge and the strobe have been
taken, updates PASSDONE at the end of a pass; then a stop request stops the run FAIL_LIMIT, a pause request pauses it,
FAIL before HOST before STEP, and else it is the taking. -/
def Claims.StreamBeginAndPeriodEndAct : Prop :=
  ∀ (s : State), s.resetLow = false →
    (s.app.stream = .priming → s.run.state = .running → 8 ≤ s.queue.length ∨ s.walker.st ≠ .walking →
      Claims.Becomes (exec .streamBegin s) (taking s)) ∧
    (∀ p, s.app.period = some p → p.driven = true → p.strobed = true →
      let t := { s with
        app.period := none
        app.passdone := if p.endOfPass then ⟨p.tags.seg, p.tags.iter, p.tags.pass⟩ else s.app.passdone }
      let u := { t with run.pauseFail := false, run.pauseHost := false, run.pauseStep := false }
      (s.run.stopReq = true → Claims.Becomes (exec .periodEnd s) (Claims.stopping .failLimit s.run.fault t)) ∧
      (s.run.stopReq = false → s.run.pauseFail = true → Claims.Becomes (exec .periodEnd s) (Claims.paused .fail u)) ∧
      (s.run.stopReq = false → s.run.pauseFail = false → s.run.pauseHost = true →
        Claims.Becomes (exec .periodEnd s) (Claims.paused .host u)) ∧
      (s.run.stopReq = false → s.run.pauseFail = false → s.run.pauseHost = false → s.run.pauseStep = true →
        Claims.Becomes (exec .periodEnd s) (Claims.paused .step u)) ∧
      (s.run.stopReq = false → s.run.pauseFail = false → s.run.pauseHost = false → s.run.pauseStep = false →
        Claims.Becomes (exec .periodEnd s) (taking t)))

/-- The queue is primed exactly while it holds 8 items or the walker is in a state other than WALKING (R73). -/
def Claims.QueueIsPrimedWhenFullOrNotWalked : Prop :=
  ∀ s : State, primed s = true ↔ 8 ≤ s.queue.length ∨ s.walker.st ≠ .walking

/-- The beginning of streams, the end of periods, and the primed queue. That STREAM_BEGIN is an event of its own is the
model's reading (log entry 8), and that PERIOD_END may come at any tick its choice (log entry 6). -/
def Obligations.StreamsBeginAndPeriodsEndInOrder : Prop :=
  Claims.StreamBeginAndPeriodEndAct ∧ Claims.QueueIsPrimedWhenFullOrNotWalked

/-- The drive edge: every present port's pins take DIR, and the DATA bit where DRIVE; pins that RECEIVE keep their drive
level and absent ports all of theirs. A marked vector makes the OUT_MARK lines active. It comes after a strobe at an
earlier or the same tick. That the row acts at any tick and sets the tick to DRV is the model's choice (log entry 6). -/
def Obligations.DriveEdgeMovesPresentPortsPins : Prop :=
  ∀ (s : State) (p : Period), s.app.period = some p → p.driven = false →
    p.strobed = true ∨ p.vec.timing.drv.toNat < p.vec.timing.stb.toNat →
    ∃ pins : Vector PinState 4,
      (∀ k : Port, pins[k] = match p.vec.parts[k] with
        | none => s.ports.pins[k]
        | some q => ⟨q.dir, (q.dir &&& q.data) ||| (~~~q.dir &&& s.ports.pins[k].level)⟩) ∧
      Claims.Becomes (exec .driveEdge s)
        { s with
          ports.pins := pins
          app.period := some { p with driven := true, tick := p.vec.timing.drv.toNat }
          trig.active := if p.vec.mark then s.trig.active ||| Claims.linesOf s .outMark else s.trig.active }

/-- The record of a vector for the ports of a mask: for each, A to D, its lane-result word and its observed value (R92,
R93). -/
def Claims.vectorRecord (kind : RecordKind) (p : Period) (results : Port → Option HW) (mask : BitVec 4)
    (pads : Vector HW 4) : LogRecord :=
  { kind := kind, mask := mask, seq := 0, tags := p.tags, tset := p.vec.tset, vnum := p.vnum,
    body := (List.finRange 4).flatMap fun k =>
      if mask.getLsbD k.val then [(results k).getD 0, pads[k]] else [] }

/-- The strobe: with no failing port nothing is counted. With one, FAILCOUNT rises by 1 and saturates, the first failure of
the run sets FIRSTFAIL and FIRST_FAIL (bit 4), the OUT_FAIL lines become active, the fail limit requests a stop and else
the policy a pause, and a FAIL record is produced for the failing ports. A vector with CAPTURE set then produces its
record for the present ports. That the row acts at any tick and sets the tick to STB is the model's choice (log entry
6). -/
def Obligations.StrobeJudgesAndRecords : Prop :=
  ∀ (s : State) (p : Period) (pads : Vector HW 4), s.resetLow = false → s.app.period = some p → p.strobed = false →
    p.driven = true ∨ p.vec.timing.stb.toNat ≤ p.vec.timing.drv.toNat →
    let result := fun k : Port => (p.vec.parts[k]).map fun q => laneResult s.ports.cfg[k] q pads[k]
    ∀ failing present : BitVec 4,
      (∀ k : Port, failing.getLsbD k.val = true ↔ ∃ w, result k = some w ∧ w ≠ 0) →
      (∀ k : Port, present.getLsbD k.val = true ↔ result k ≠ none) →
      let t := { s with app.period := some { p with strobed := true, tick := p.vec.timing.stb.toNat } }
      let count := if s.app.failcount = 0xFFFFFFFF#32 then 0xFFFFFFFF#32 else s.app.failcount + 1
      let f := { t with app.failcount := count, trig.active := s.trig.active ||| Claims.linesOf s .outFail }
      let f := if s.app.failcount = 0 then Claims.withFlag 4 { f with app.firstfail := ⟨p.tags, p.vnum⟩ } else f
      let f := if s.run.faillimit ≠ 0 ∧ count = s.run.faillimit.setWidth 32 then { f with run.stopReq := true }
               else if s.run.failPause then { f with run.pauseFail := true } else f
      let judged := if failing = 0 then t
                    else Claims.produced (Claims.vectorRecord .fail p result failing pads) f
      Claims.Becomes (exec (.strobe pads) s)
        (if p.vec.capture then Claims.produced (Claims.vectorRecord .capture p result present pads) judged else judged)

/-! ## Waits, trigger lines and the log writer -/

/-- A wait is satisfied (R113): it is cleared, a walker behind a SKIP wait goes on to the records from BASE (R75), and the sequencer enters RUNNING and
PRIMING, with the stream begun at once when the queue is primed. -/
def Claims.waitSatisfied (w : WaitProgress) (s : State) : State :=
  let t := { s with
    app.wait := none
    walker.st := if w.item.skip = true ∧ s.walker.st = .stallWait then .walking else s.walker.st
    walker.fetchAddr := match s.walker.cur with
      | some c => if w.item.skip = true ∧ s.walker.st = .stallWait then Claims.base c.img else s.walker.fetchAddr
      | none => s.walker.fetchAddr
    run.state := .running, run.cause := .none, run.suspended := none, app.stream := .priming }
  if primed t then taking t else t

/-- MATCH_SAMPLE: the observed value and the mismatch word of the cared-for pins are kept, and a match satisfies the wait. -/
def Claims.MatchSampleSatisfiesTheWait : Prop :=
  ∀ (s : State) (w : WaitProgress) (pads : Vector HW 4), s.run.state = .waiting → s.run.cause ≠ .notReady →
    s.app.wait = some w → w.item.kind = .levels → w.sampled = false →
    let seen := pads[w.item.mport]
    let mismatch := (seen ^^^ w.item.mexp) &&& w.item.mcare
    let w' := { w with sampled := true, tick := w.item.timing.stb.toNat, observed := seen, mismatch := mismatch }
    let t := { s with app.wait := some w' }
    Claims.Becomes (exec (.matchSample pads) s) (if mismatch = 0 then Claims.waitSatisfied w' t else t)

/-- WAIT_PERIOD_END: without a limit the next wait period begins. With one the remaining count falls by 1; at 0 a TIMEOUT
record is produced, and TOACT stops the run WAIT_TIMEOUT, or lets the walker leave through ALT with the sequencer RUNNING
and PRIMING. STARVETO_EXPIRY stops the run STARVE_TIMEOUT at the pending entry, with no TIMEOUT record. -/
def Claims.WaitsTimeOut : Prop :=
  ∀ (s : State), s.resetLow = false → s.run.state = .waiting →
    (∀ w, s.run.cause ≠ .notReady → s.app.wait = some w → w.item.kind = .trigger ∨ w.sampled = true →
      let left := w.remaining - 1
      let next := { w with tick := 0, sampled := false }
      let record : LogRecord :=
        { kind := .timeout, seq := 0, tags := ⟨w.tags.seg, 0, 0, w.tags.pass⟩, tset := w.item.wtset
          vnum := s.app.vcount
          mask := match w.item.kind with | .trigger => 0 | .levels => BitVec.ofNat 4 (2 ^ w.item.mport.val)
          body := match w.item.kind with | .trigger => [] | .levels => [w.mismatch, w.observed] }
      let timedOut := { Claims.produced record s with app.wait := none }
      (w.item.timeout = 0 → Claims.Becomes (exec .waitPeriodEnd s) { s with app.wait := some next }) ∧
      (w.item.timeout ≠ 0 → left ≠ 0 →
        Claims.Becomes (exec .waitPeriodEnd s) { s with app.wait := some { next with remaining := left } }) ∧
      (w.item.timeout ≠ 0 → left = 0 → w.item.skip = false →
        Claims.Becomes (exec .waitPeriodEnd s) (Claims.stopping .fault ⟨.waitTimeout, w.tags⟩ timedOut)) ∧
      (w.item.timeout ≠ 0 → left = 0 → w.item.skip = true →
        let t := if s.walker.st = .stallWait then
            { timedOut with walker.st := .walking, walker.next := .leaveAlt } else timedOut
        let t := { t with run.state := .running, run.cause := .none, run.suspended := none, app.stream := .priming }
        Claims.Becomes (exec .waitPeriodEnd s) (if primed t then taking t else t))) ∧
    (∀ i, s.run.cause = .notReady → s.run.starveto ≠ 0 → s.walker.pend = some i →
      Claims.Becomes (exec .starvetoExpiry s)
        (Claims.stopping .fault ⟨.starveTimeout, ⟨BitVec.ofNat 7 i.val, 0, 0, s.walker.tags.pass⟩⟩ s))

/-- The samples, the periods and the timeouts of waits, and the starvation timer. That the three rows act whatever the
counters hold, and the sample sets the tick to STB, is the model's choice (log entry 6). -/
def Obligations.WaitsAreSatisfiedOrTimeOut : Prop :=
  Claims.MatchSampleSatisfiesTheWait ∧ Claims.WaitsTimeOut

/-- An edge of the selected kind on an INPUT line sets the line's latch and TRG_EDGE (bit 9). In ARMED on the ARMCFG line it
starts the stream when the queue is primed, and else sets EARLY_TRIGGER (bit 8). It satisfies a TRIGGER wait being made on
its line. Any other edge does nothing more, and one of another kind, or on an output line, does nothing. With RESET_N low no
edge is taken (R158). -/
def Obligations.TriggerEdgesAreLatchedAndOffered : Prop :=
  ∀ (s : State) (j : Line) (rising : Bool),
    let l := s.trig.lines[j]
    let selected := s.resetLow = false ∧ l.mode = .input ∧ (l.edge = .both ∨ l.edge = if rising then .rise else .fall)
    let t := Claims.withFlag 9 { s with trig.latch := s.trig.latch ||| BitVec.ofNat 4 (2 ^ j.val) }
    let row := exec (.triggerEdge j rising) s
    let starts := s.run.state = .armed ∧ s.run.armcfg = j
    let awaited := fun w : WaitProgress =>
      s.run.state = .waiting ∧ s.run.cause = .trigger ∧ s.app.wait = some w ∧ w.item.kind = .trigger ∧ w.item.line = j
    (¬ selected → row = .next s) ∧
    (selected → starts → primed s = true →
      Claims.Becomes row (taking { t with trig.active := s.trig.active ||| Claims.linesOf s .outRun })) ∧
    (selected → starts → primed s = false → Claims.Becomes row (Claims.withFlag 8 t)) ∧
    (∀ w, selected → awaited w → Claims.Becomes row (Claims.waitSatisfied w t)) ∧
    (selected → ¬ starts → (∀ w, ¬ awaited w) → Claims.Becomes row t)

/-- RECORD_PUBLICATION: halfword i of the head record is at LOGBASE + ((LOGWP + i) mod LOGSIZE); LOGWP advances by its
length modulo LOGSIZE, it leaves the FIFO, and LOG_LEVEL (bit 5) is set when the occupancy reaches a nonzero LOGLEVEL. In
STOPPING the publication of the END record, or any once an ABORT has shortened the drain, ends the drain; else an emptied
FIFO is followed by the END record. -/
def Claims.PublicationMovesTheHeadToTheRing : Prop :=
  ∀ (s : State) (r : LogRecord) (rest : List LogRecord), s.resetLow = false → RingInRange s →
    s.mem.grant = some .writer → s.log.fifo = r :: rest →
    let size := s.log.size.toNat
    let wp := (s.log.wp.toNat + r.halfwords.length) % size
    let occupied := (((wp : Int) - s.log.rp.toNat) % size).toNat
    let t := { s with
      mem.grant := none
      dram.cells := Claims.ringWritten s r.halfwords
      log.wp := BitVec.ofNat 24 wp, log.fifo := rest }
    let t := if s.log.level ≠ 0 ∧ s.log.level.toNat ≤ occupied then Claims.withFlag 5 t else t
    let row := exec .recordPublication s
    let last := s.run.drainAborted = true ∨ r.kind = .endRun
    (s.run.state ≠ .stopping → Claims.Becomes row t) ∧
    (s.run.state = .stopping → last → Claims.Becomes row
      (if s.run.cause = .fault then Claims.withFlag 1 { t with run.state := .faulted }
       else Claims.withFlag 0 { t with run.state := .ended })) ∧
    (s.run.state = .stopping → ¬ last → rest ≠ [] ∨ s.log.endProduced = true → Claims.Becomes row t) ∧
    (s.run.state = .stopping → ¬ last → rest = [] → s.log.endProduced = false → Claims.Becomes row
      { t with log.fifo := [Claims.endRecord s.run.cause s.run.fault s], log.seqno := s.log.seqno + 1
               log.endProduced := true })

/-- The halfwords of a record: nine of header, as Table 12-10 packs them with reserved bits 0, then the body. A record has 9
to 17. -/
def Claims.RecordsArePackedInHalfwords : Prop :=
  ∀ r : LogRecord, r.body.length ≤ 8 →
    r.halfwords =
      [0#5 ++ r.mask ++ BitVec.ofNat 5 (9 + r.body.length) ++
         Claims.code [RecordKind.fail, .capture, .timeout, .endRun] r.kind 2,
       r.seq.extractLsb' 0 16, r.seq.extractLsb' 16 16, 0#5 ++ BitVec.ofNat 3 r.tset.val ++ 0#1 ++ r.tags.seg, r.tags.off,
       0#4 ++ r.tags.iter, r.tags.pass, r.vnum.extractLsb' 0 16, r.vnum.extractLsb' 16 16] ++ r.body

/-- The publication of the head record, and the halfwords it writes. -/
def Obligations.PublicationWritesTheRingAndAdvances : Prop :=
  Claims.PublicationMovesTheHeadToTheRing ∧ Claims.RecordsArePackedInHalfwords

/-! ## Resets -/

/-- What a grant in progress that is ended after `n` halfwords leaves in pattern memory: a writer grant its first halfwords
in the ring, always short of the last one; a drain, a FILL burst and a COPY's write grant their first halfwords; a PATCH
its new halfword once both its halfwords are transferred; every other grant nothing. -/
def Claims.CutGrantsLeaveWhatTheyWrote : Prop :=
  ∀ (s : State) (n : Nat),
    (∀ r rest, s.mem.grant = some .writer → s.log.fifo = r :: rest →
      partialTransfer n s =
        { s with dram.cells := Claims.ringWritten s (r.halfwords.take (min n (r.halfwords.length - 1))) }) ∧
    (∀ ws live, s.mem.grant = some (.window (.drain ws live)) →
      partialTransfer n s =
        { s with dram.cells := (ws.take n).foldl (fun m w => m.write w.addr.toNat w.value) s.dram.cells }) ∧
    (∀ d m v o, s.mem.grant = some (.window (.fill d m v o)) →
      partialTransfer n s = writeHalves d (List.replicate (min n m) v) s) ∧
    (∀ d xs o, s.mem.grant = some (.window (.copyWrite d xs o)) → partialTransfer n s = writeHalves d (xs.take n) s) ∧
    (∀ r old t, s.mem.grant = some (.window (.patch r)) → readHalf r.addr s = (old, t) →
      partialTransfer n s =
        if n < 2 then s
        else { t with dram.cells := t.dram.cells.write r.addr (old &&& r.andMask ||| r.orMask) }) ∧
    (s.mem.grant = none ∨ s.mem.grant = some .refresh ∨ (∃ l, s.mem.grant = some (.walker l)) ∨
      (∃ a m l, s.mem.grant = some (.window (.fetch a m l))) ∨
      (∃ a d m o, s.mem.grant = some (.window (.copyRead a d m o))) ∨ (s.mem.grant = some .writer ∧ s.log.fifo = []) →
      partialTransfer n s = s)

/-- POR puts every block at its POR values, whatever the state. The RESET_N pin going low does so too, but keeps the
controller's state, sampled size, owed count and REFMISS, the memory's contents with what the grant it cuts short has
written, and shows an abandoned FILL or COPY in MOPSTAT and MOPCOUNT; a refresh in progress goes on. The pin's return
changes only the pin and restarts the settling interval. -/
def Claims.ResetRowsComplete : Prop :=
  ∀ (s : State) (msize : BitVec 2) (n : Nat),
    (exec (.por msize) s = .next { State.porWith msize s.free with resetLow := s.resetLow, pending := s.pending }) ∧
    (s.resetLow = false →
      Claims.Becomes (exec (.resetNAssert n) s)
        { State.porWith s.mem.msize s.dram.epoch with
          resetLow := true, pending := s.pending
          dram := (partialTransfer n s).dram, free := (partialTransfer n s).free
          mem := { MemCtl.por s.mem.msize with
            ready := s.mem.ready, owed := s.mem.owed, refmiss := s.mem.refmiss
            grant := if s.mem.grant = some .refresh then some .refresh else none }
          win := if s.win.memop = .idle then Window.por
                 else { Window.por with mopLast := .abandoned, mopCount := s.win.mopCount } }) ∧
    (s.resetLow = true → Claims.Becomes (exec .resetNRelease s) { s with resetLow := false, mem.initTicks := 0 })

/-- POR and the RESET_N pin, and what a grant that the pin cuts short leaves in memory. -/
def Obligations.ResetsReturnTheBlocksToTheirValues : Prop :=
  Claims.ResetRowsComplete ∧ Claims.CutGrantsLeaveWhatTheyWrote
end

