-- ==== Sys2Proof/Laws/Exec.lean ====
section
/-! SUPPORT. The ways a row is taken: what the shared forms of a host access, a command, a register write and an event
answer, and the arbiter's frame. -/

namespace Sys2Proof.Machine

set_option Elab.async false

/-- The bus is free: RESET_N is high and no access is stretched. -/
theorem busFree_iff {s : State} : busFree s = true ↔ s.resetLow = false ∧ s.win.access = none := by
  simp [busFree]

/-- A host access that the window takes. -/
theorem hostAccess_taken {s : State} (f : State → State) (h : busFree s = true) :
    hostAccess f s = .next (arbitrate (f s)) := by simp [hostAccess, h]

/-- A host access that the window does not take. -/
theorem hostAccess_closed {s : State} (f : State → State) (h : busFree s = false) : hostAccess f s = .next s := by
  simp [hostAccess, h]

/-- An event that occurs. -/
theorem eventStep_occurs {f : State → State} {s : State} : eventStep true f s = .next (arbitrate (f s)) := rfl

/-- An event that cannot occur. -/
theorem eventStep_absent {f : State → State} {s : State} : eventStep false f s = .next s := rfl

/-- A command that the window takes: CMD holds its code, then the owner's effect. -/
theorem command_taken {s : State} (code : HW) (f : State → State) (h : busFree s = true) :
    command code f s = .next (arbitrate (f (takeCmd code s))) := by simp [command, hostAccess_taken _ h]

/-- A register write that the window takes, with its check's verdict. -/
theorem registerAccess_taken {s : State} (refusal : State → Option Status) (offset : BitVec 7) (f : State → State)
    (h : busFree s = true) :
    registerAccess refusal offset f s = .next (arbitrate (accessUnless (refusal s) offset f s)) := by
  simp [registerAccess, hostAccess_taken _ h]

/-- A register write whose checks pass. -/
theorem accessUnless_passed (offset : BitVec 7) (f : State → State) (s : State) :
    accessUnless none offset f s = f s := rfl

/-- A register write whose checks refuse it. -/
theorem accessUnless_refused (code : Status) (offset : BitVec 7) (f : State → State) (s : State) :
    accessUnless (some code) offset f s = refuseAccess code offset s := rfl

/-- Every form answers a next state. -/
theorem hostAccess_next (f : State → State) (s : State) : ∃ t, hostAccess f s = .next t := ⟨_, rfl⟩

/-- The arbiter changes the grant and the passed-over count, nothing else. -/
theorem arbitrate_eq (s : State) :
    arbitrate s = { s with mem.grant := (arbitrate s).mem.grant, mem.passover := (arbitrate s).mem.passover } := by
  unfold arbitrate; split <;> rfl

/-- The arbiter leaves a busy port as it is. -/
theorem arbitrate_busy {s : State} (h : s.mem.grant.isSome = true) : (arbitrate s).mem.grant = s.mem.grant := by
  simp [arbitrate, h]

/-- The arbiter makes no grant in INIT. -/
theorem arbitrate_init {s : State} (h : s.mem.ready = false) : (arbitrate s).mem.grant = s.mem.grant := by
  simp [arbitrate, h]

/-- A free port in READY takes the grant of the ranks. -/
theorem arbitrate_free {s : State} (r : s.mem.ready = true) (h : s.mem.grant = none) :
    (arbitrate s).mem.grant = decideGrant s (windowWork s) (passoverNow s (windowWork s)) := by
  simp [arbitrate, r, h]

end Sys2Proof.Machine
end

