-- ==== Sys2Proof/Laws/Memory.lean ====
section
/-! SUPPORT. Pattern memory: every operation keeps the canonical form, and what a read finds after a write. -/

namespace Sys2Proof.Machine

set_option Elab.async false

/-! ## The canonical form -/

/-- The canonical form, with every later address above the first. -/
theorem Memory.wf_cons {a : Nat} {v : HW} {m : Memory} :
    Memory.wf ((a, v) :: m) = true ↔ (∀ p ∈ m, a < p.1) ∧ Memory.wf m = true := by
  induction m generalizing a v with
  | nil => simp [Memory.wf]
  | cons p rest ih =>
    obtain ⟨b, w⟩ := p
    constructor
    · intro h
      simp only [Memory.wf, Bool.and_eq_true, decide_eq_true_eq] at h
      refine ⟨fun q hq => ?_, h.2⟩
      rcases List.mem_cons.1 hq with rfl | hq
      · exact h.1
      · exact Nat.lt_trans h.1 ((ih.1 h.2).1 q hq)
    · intro h
      simp only [Memory.wf, Bool.and_eq_true, decide_eq_true_eq]
      exact ⟨h.1 (b, w) (List.mem_cons_self ..), h.2⟩

/-- An address listed after a write is the one written or was listed before. -/
theorem Memory.mem_write {m : Memory} {a : Nat} {v : HW} {p : Nat × HW} (h : p ∈ m.write a v) :
    p = (a, v) ∨ p ∈ m := by
  induction m with
  | nil => simpa [Memory.write] using h
  | cons q rest ih =>
    obtain ⟨b, w⟩ := q
    simp only [Memory.write] at h
    split at h
    · simpa using h
    · split at h
      · rcases List.mem_cons.1 h with h | h
        · exact .inl h
        · exact .inr (List.mem_cons_of_mem _ h)
      · rcases List.mem_cons.1 h with h | h
        · exact .inr (h ▸ List.mem_cons_self ..)
        · exact (ih h).imp id (List.mem_cons_of_mem _)

/-- A write keeps the canonical form. -/
theorem Memory.write_wf {m : Memory} (h : m.wf = true) (a : Nat) (v : HW) : (m.write a v).wf = true := by
  induction m with
  | nil => rfl
  | cons q rest ih =>
    obtain ⟨b, w⟩ := q
    obtain ⟨low, tail⟩ := Memory.wf_cons.1 h
    simp only [Memory.write]
    split
    · refine Memory.wf_cons.2 ⟨fun p hp => ?_, h⟩
      rcases List.mem_cons.1 hp with rfl | hp
      · assumption
      · exact Nat.lt_trans ‹_› (low p hp)
    · split
      · subst_vars; exact Memory.wf_cons.2 ⟨low, tail⟩
      · refine Memory.wf_cons.2 ⟨fun p hp => ?_, ih tail⟩
        rcases Memory.mem_write hp with rfl | hp
        · exact Nat.lt_of_le_of_ne (Nat.le_of_not_lt ‹_›) (Ne.symm ‹_›)
        · exact low p hp

/-- Writes at consecutive addresses keep the canonical form. -/
theorem Memory.writeList_wf {m : Memory} (h : m.wf = true) (a : Nat) (vs : List HW) : (m.writeList a vs).wf = true := by
  induction vs generalizing m a with
  | nil => exact h
  | cons v vs ih => exact ih (Memory.write_wf h a v) (a + 1)

/-- Posted writes keep the canonical form. -/
theorem Memory.posted_wf {m : Memory} (h : m.wf = true) (ws : List PostedWrite) :
    Memory.wf (ws.foldl (fun m w => m.write w.addr.toNat w.value) m) = true := by
  induction ws generalizing m with
  | nil => exact h
  | cons w ws ih => exact ih (Memory.write_wf h _ _)

/-- Writes into the ring keep the canonical form. -/
theorem writeRing_wf (s : State) {m : Memory} (h : m.wf = true) (k : Nat) (vs : List HW) :
    (writeRing s m k vs).wf = true := by
  induction vs generalizing m k with
  | nil => exact h
  | cons v vs ih => exact ih (Memory.write_wf h _ _) (k + 1)

/-- Writes at consecutive addresses, on a state. -/
theorem writeHalves_wf {s : State} (h : s.dram.cells.wf = true) (a : Nat) (vs : List HW) :
    (writeHalves a vs s).dram.cells.wf = true := Memory.writeList_wf h a vs

/-- Posted writes, on a state. -/
theorem writePosted_wf {s : State} (h : s.dram.cells.wf = true) (ws : List PostedWrite) :
    (writePosted ws s).dram.cells.wf = true := Memory.posted_wf h ws

/-! ## Reads after writes -/

/-- The halfword just written is the one read. -/
theorem Memory.read?_write_same (m : Memory) (a : Nat) (v : HW) : (m.write a v).read? a = some v := by
  induction m with
  | nil => simp [Memory.write, Memory.read?]
  | cons q rest ih =>
    obtain ⟨b, w⟩ := q
    simp only [Memory.write]
    split
    · simp [Memory.read?]
    · split
      · simp [Memory.read?]
      · simpa [Memory.read?, ‹¬a = b›] using ih

/-- Every other address reads as before. -/
theorem Memory.read?_write_other (m : Memory) {a c : Nat} (v : HW) (h : c ≠ a) :
    (m.write a v).read? c = m.read? c := by
  induction m with
  | nil => simp [Memory.write, Memory.read?, h]
  | cons q rest ih =>
    obtain ⟨b, w⟩ := q
    simp only [Memory.write]
    split
    · simp [Memory.read?, h]
    · split
      · subst_vars; simp [Memory.read?, h]
      · simp only [Memory.read?, ih]

/-- An address outside the halfwords written reads as before. -/
theorem Memory.read?_writeList_outside (m : Memory) (a : Nat) (vs : List HW) {c : Nat}
    (h : c < a ∨ a + vs.length ≤ c) : (m.writeList a vs).read? c = m.read? c := by
  induction vs generalizing m a with
  | nil => rfl
  | cons v vs ih =>
    simp only [List.length_cons] at h
    rw [Memory.writeList, ih _ _ (by omega), Memory.read?_write_other _ _ (by omega)]

/-- An address inside the halfwords written reads as the one written there. -/
theorem Memory.read?_writeList_inside (m : Memory) (a : Nat) (vs : List HW) {k : Nat} (h : k < vs.length) :
    (m.writeList a vs).read? (a + k) = some vs[k] := by
  induction vs generalizing m a k with
  | nil => simp at h
  | cons v vs ih =>
    cases k with
    | zero =>
      rw [Memory.writeList, Memory.read?_writeList_outside _ _ _ (by omega), Nat.add_zero,
        Memory.read?_write_same, List.getElem_cons_zero]
    | succ k =>
      have := ih (m.write a v) (a + 1) (k := k) (by simpa using h)
      rw [Memory.writeList, show a + (k + 1) = a + 1 + k by omega, this, List.getElem_cons_succ]

/-- A listed halfword is read with no change of the state. -/
theorem readHalf_known {s : State} {a : Nat} {v : HW} (h : s.dram.cells.read? a = some v) : readHalf a s = (v, s) := by
  simp [readHalf, h]

/-- The halfword of an unlisted address, with no refresh missed, is that of the power-on. -/
theorem readHalf_unknown {s : State} {a : Nat} (h : s.dram.cells.read? a = none) (d : s.dram.decayed = false) :
    readHalf a s = (Config.powerOnHalfword s.dram.epoch a, s) := by
  simp [readHalf, h, d]

/-- The halfword of an unlisted address after a missed refresh is a fresh free value. -/
theorem readHalf_decayed {s : State} {a : Nat} (h : s.dram.cells.read? a = none) (d : s.dram.decayed = true) :
    readHalf a s = (Config.decayedHalfword s.free, { s with free := s.free + 1 }) := by
  simp [readHalf, h, d]

/-- As many halfwords are read as were asked for. -/
theorem readHalves_length (n a : Nat) (s : State) : (readHalves n a s).1.length = n := by
  induction n generalizing a s with
  | zero => rfl
  | succ n ih => simp [readHalves, ih]

end Sys2Proof.Machine
end

