-- ==== Sys2Proof/Laws/State.lean ====
section
/-! SUPPORT. The frames of the smallest updates: flags, refusals, the grant, memory, pins and log records. Each lemma says
which fields of the state an operation leaves as they are, so that no proof unfolds a record update. -/

namespace Sys2Proof.Machine

set_option Elab.async false

/-! ## Flags and refusals -/

/-- What `raise` leaves as it is. -/
@[simp] theorem raise_frame (f : EvFlag) (s : State) :
    (raise f s).ports = s.ports ∧ (raise f s).tsets = s.tsets ∧ (raise f s).seg = s.seg ∧
    (raise f s).walker = s.walker ∧ (raise f s).queue = s.queue ∧ (raise f s).app = s.app ∧
    (raise f s).run = s.run ∧ (raise f s).log = s.log ∧ (raise f s).trig = s.trig ∧ (raise f s).mem = s.mem ∧
    (raise f s).dram = s.dram ∧ (raise f s).win = s.win ∧ (raise f s).resetLow = s.resetLow ∧
    (raise f s).free = s.free ∧ (raise f s).pending = s.pending ∧ (raise f s).ev.enables = s.ev.enables ∧
    (raise f s).ev.master = s.ev.master := by unfold raise; split <;> simp

/-- What `raiseIf` leaves as it is. -/
@[simp] theorem raiseIf_frame (b : Bool) (f : EvFlag) (s : State) :
    (raiseIf b f s).ports = s.ports ∧ (raiseIf b f s).tsets = s.tsets ∧ (raiseIf b f s).seg = s.seg ∧
    (raiseIf b f s).walker = s.walker ∧ (raiseIf b f s).queue = s.queue ∧ (raiseIf b f s).app = s.app ∧
    (raiseIf b f s).run = s.run ∧ (raiseIf b f s).log = s.log ∧ (raiseIf b f s).trig = s.trig ∧
    (raiseIf b f s).mem = s.mem ∧ (raiseIf b f s).dram = s.dram ∧ (raiseIf b f s).win = s.win ∧
    (raiseIf b f s).resetLow = s.resetLow ∧ (raiseIf b f s).free = s.free ∧ (raiseIf b f s).pending = s.pending ∧
    (raiseIf b f s).ev.enables = s.ev.enables ∧ (raiseIf b f s).ev.master = s.ev.master := by
  unfold raiseIf; split <;> simp

/-- What `refuseAccess` leaves as it is. -/
@[simp] theorem refuseAccess_frame (code : Status) (offset : BitVec 7) (s : State) :
    (refuseAccess code offset s).ports = s.ports ∧ (refuseAccess code offset s).tsets = s.tsets ∧
    (refuseAccess code offset s).seg = s.seg ∧ (refuseAccess code offset s).walker = s.walker ∧
    (refuseAccess code offset s).queue = s.queue ∧ (refuseAccess code offset s).app = s.app ∧
    (refuseAccess code offset s).run = s.run ∧ (refuseAccess code offset s).log = s.log ∧
    (refuseAccess code offset s).trig = s.trig ∧ (refuseAccess code offset s).mem = s.mem ∧
    (refuseAccess code offset s).dram = s.dram ∧ (refuseAccess code offset s).resetLow = s.resetLow ∧
    (refuseAccess code offset s).free = s.free ∧ (refuseAccess code offset s).pending = s.pending ∧
    (refuseAccess code offset s).win.cmd = s.win.cmd ∧ (refuseAccess code offset s).win.cmdstat = s.win.cmdstat ∧
    (refuseAccess code offset s).win.cmdres = s.win.cmdres ∧ (refuseAccess code offset s).win.carg = s.win.carg ∧
    (refuseAccess code offset s).win.captures = s.win.captures ∧
    (refuseAccess code offset s).win.holdings = s.win.holdings ∧
    (refuseAccess code offset s).win.waddr = s.win.waddr ∧
    (refuseAccess code offset s).win.stride = s.win.stride ∧
    (refuseAccess code offset s).win.ahead = s.win.ahead ∧ (refuseAccess code offset s).win.fetch = s.win.fetch ∧
    (refuseAccess code offset s).win.posted = s.win.posted ∧
    (refuseAccess code offset s).win.memop = s.win.memop ∧
    (refuseAccess code offset s).win.mopLast = s.win.mopLast ∧
    (refuseAccess code offset s).win.mopCount = s.win.mopCount ∧
    (refuseAccess code offset s).win.patch = s.win.patch ∧
    (refuseAccess code offset s).win.orphan = s.win.orphan ∧
    (refuseAccess code offset s).win.access = s.win.access ∧
    (refuseAccess code offset s).win.busData = s.win.busData ∧
    (refuseAccess code offset s).ev.enables = s.ev.enables ∧ (refuseAccess code offset s).ev.master = s.ev.master := by
  simp [refuseAccess]

/-- What `refuseCmd` leaves as it is. -/
@[simp] theorem refuseCmd_frame (code : Status) (s : State) :
    (refuseCmd code s).ports = s.ports ∧ (refuseCmd code s).tsets = s.tsets ∧ (refuseCmd code s).seg = s.seg ∧
    (refuseCmd code s).walker = s.walker ∧ (refuseCmd code s).queue = s.queue ∧ (refuseCmd code s).app = s.app ∧
    (refuseCmd code s).run = s.run ∧ (refuseCmd code s).log = s.log ∧ (refuseCmd code s).trig = s.trig ∧
    (refuseCmd code s).mem = s.mem ∧ (refuseCmd code s).dram = s.dram ∧
    (refuseCmd code s).resetLow = s.resetLow ∧ (refuseCmd code s).free = s.free ∧
    (refuseCmd code s).pending = s.pending ∧ (refuseCmd code s).win.cmd = s.win.cmd ∧
    (refuseCmd code s).win.cmdres = s.win.cmdres ∧ (refuseCmd code s).win.carg = s.win.carg ∧
    (refuseCmd code s).win.winerr = s.win.winerr ∧ (refuseCmd code s).win.captures = s.win.captures ∧
    (refuseCmd code s).win.holdings = s.win.holdings ∧ (refuseCmd code s).win.waddr = s.win.waddr ∧
    (refuseCmd code s).win.stride = s.win.stride ∧ (refuseCmd code s).win.ahead = s.win.ahead ∧
    (refuseCmd code s).win.fetch = s.win.fetch ∧ (refuseCmd code s).win.posted = s.win.posted ∧
    (refuseCmd code s).win.memop = s.win.memop ∧ (refuseCmd code s).win.mopLast = s.win.mopLast ∧
    (refuseCmd code s).win.mopCount = s.win.mopCount ∧ (refuseCmd code s).win.patch = s.win.patch ∧
    (refuseCmd code s).win.orphan = s.win.orphan ∧ (refuseCmd code s).win.access = s.win.access ∧
    (refuseCmd code s).win.busData = s.win.busData ∧ (refuseCmd code s).ev.enables = s.ev.enables ∧
    (refuseCmd code s).ev.master = s.ev.master := by simp [refuseCmd]

/-- What `acceptCmd` leaves as it is. -/
@[simp] theorem acceptCmd_frame (s : State) :
    (acceptCmd s).ports = s.ports ∧ (acceptCmd s).tsets = s.tsets ∧ (acceptCmd s).seg = s.seg ∧
    (acceptCmd s).walker = s.walker ∧ (acceptCmd s).queue = s.queue ∧ (acceptCmd s).app = s.app ∧
    (acceptCmd s).run = s.run ∧ (acceptCmd s).log = s.log ∧ (acceptCmd s).trig = s.trig ∧
    (acceptCmd s).mem = s.mem ∧ (acceptCmd s).dram = s.dram ∧ (acceptCmd s).ev = s.ev ∧
    (acceptCmd s).resetLow = s.resetLow ∧ (acceptCmd s).free = s.free ∧ (acceptCmd s).pending = s.pending ∧
    (acceptCmd s).win.cmd = s.win.cmd ∧ (acceptCmd s).win.cmdres = s.win.cmdres ∧
    (acceptCmd s).win.carg = s.win.carg ∧ (acceptCmd s).win.winerr = s.win.winerr ∧
    (acceptCmd s).win.captures = s.win.captures ∧ (acceptCmd s).win.holdings = s.win.holdings ∧
    (acceptCmd s).win.waddr = s.win.waddr ∧ (acceptCmd s).win.stride = s.win.stride ∧
    (acceptCmd s).win.ahead = s.win.ahead ∧ (acceptCmd s).win.fetch = s.win.fetch ∧
    (acceptCmd s).win.posted = s.win.posted ∧ (acceptCmd s).win.memop = s.win.memop ∧
    (acceptCmd s).win.mopLast = s.win.mopLast ∧ (acceptCmd s).win.mopCount = s.win.mopCount ∧
    (acceptCmd s).win.patch = s.win.patch ∧ (acceptCmd s).win.orphan = s.win.orphan ∧
    (acceptCmd s).win.access = s.win.access ∧ (acceptCmd s).win.busData = s.win.busData := by simp [acceptCmd]

/-- What `acceptCmdWith` leaves as it is. -/
@[simp] theorem acceptCmdWith_frame (result : HW) (s : State) :
    (acceptCmdWith result s).ports = s.ports ∧ (acceptCmdWith result s).tsets = s.tsets ∧
    (acceptCmdWith result s).seg = s.seg ∧ (acceptCmdWith result s).walker = s.walker ∧
    (acceptCmdWith result s).queue = s.queue ∧ (acceptCmdWith result s).app = s.app ∧
    (acceptCmdWith result s).run = s.run ∧ (acceptCmdWith result s).log = s.log ∧
    (acceptCmdWith result s).trig = s.trig ∧ (acceptCmdWith result s).mem = s.mem ∧
    (acceptCmdWith result s).dram = s.dram ∧ (acceptCmdWith result s).ev = s.ev ∧
    (acceptCmdWith result s).resetLow = s.resetLow ∧ (acceptCmdWith result s).free = s.free ∧
    (acceptCmdWith result s).pending = s.pending ∧ (acceptCmdWith result s).win.cmd = s.win.cmd ∧
    (acceptCmdWith result s).win.carg = s.win.carg ∧ (acceptCmdWith result s).win.winerr = s.win.winerr ∧
    (acceptCmdWith result s).win.captures = s.win.captures ∧
    (acceptCmdWith result s).win.holdings = s.win.holdings ∧ (acceptCmdWith result s).win.waddr = s.win.waddr ∧
    (acceptCmdWith result s).win.stride = s.win.stride ∧ (acceptCmdWith result s).win.ahead = s.win.ahead ∧
    (acceptCmdWith result s).win.fetch = s.win.fetch ∧ (acceptCmdWith result s).win.posted = s.win.posted ∧
    (acceptCmdWith result s).win.memop = s.win.memop ∧ (acceptCmdWith result s).win.mopLast = s.win.mopLast ∧
    (acceptCmdWith result s).win.mopCount = s.win.mopCount ∧ (acceptCmdWith result s).win.patch = s.win.patch ∧
    (acceptCmdWith result s).win.orphan = s.win.orphan ∧ (acceptCmdWith result s).win.access = s.win.access ∧
    (acceptCmdWith result s).win.busData = s.win.busData := by simp [acceptCmdWith]

/-- What `takeCmd` leaves as it is. -/
@[simp] theorem takeCmd_frame (code : HW) (s : State) :
    (takeCmd code s).ports = s.ports ∧ (takeCmd code s).tsets = s.tsets ∧ (takeCmd code s).seg = s.seg ∧
    (takeCmd code s).walker = s.walker ∧ (takeCmd code s).queue = s.queue ∧ (takeCmd code s).app = s.app ∧
    (takeCmd code s).run = s.run ∧ (takeCmd code s).log = s.log ∧ (takeCmd code s).trig = s.trig ∧
    (takeCmd code s).mem = s.mem ∧ (takeCmd code s).dram = s.dram ∧ (takeCmd code s).ev = s.ev ∧
    (takeCmd code s).resetLow = s.resetLow ∧ (takeCmd code s).free = s.free ∧
    (takeCmd code s).pending = s.pending ∧ (takeCmd code s).win.cmdstat = s.win.cmdstat ∧
    (takeCmd code s).win.cmdres = s.win.cmdres ∧ (takeCmd code s).win.carg = s.win.carg ∧
    (takeCmd code s).win.winerr = s.win.winerr ∧ (takeCmd code s).win.captures = s.win.captures ∧
    (takeCmd code s).win.holdings = s.win.holdings ∧ (takeCmd code s).win.waddr = s.win.waddr ∧
    (takeCmd code s).win.stride = s.win.stride ∧ (takeCmd code s).win.ahead = s.win.ahead ∧
    (takeCmd code s).win.fetch = s.win.fetch ∧ (takeCmd code s).win.posted = s.win.posted ∧
    (takeCmd code s).win.memop = s.win.memop ∧ (takeCmd code s).win.mopLast = s.win.mopLast ∧
    (takeCmd code s).win.mopCount = s.win.mopCount ∧ (takeCmd code s).win.patch = s.win.patch ∧
    (takeCmd code s).win.orphan = s.win.orphan ∧ (takeCmd code s).win.access = s.win.access ∧
    (takeCmd code s).win.busData = s.win.busData := by simp [takeCmd]


/-! ## Memory and the arbiter -/

/-- What `readHalf` leaves as it is. -/
@[simp] theorem readHalf_frame (a : Nat) (s : State) :
    (readHalf a s).2.ports = s.ports ∧ (readHalf a s).2.tsets = s.tsets ∧ (readHalf a s).2.seg = s.seg ∧
    (readHalf a s).2.walker = s.walker ∧ (readHalf a s).2.queue = s.queue ∧ (readHalf a s).2.app = s.app ∧
    (readHalf a s).2.run = s.run ∧ (readHalf a s).2.log = s.log ∧ (readHalf a s).2.trig = s.trig ∧
    (readHalf a s).2.mem = s.mem ∧ (readHalf a s).2.dram = s.dram ∧ (readHalf a s).2.win = s.win ∧
    (readHalf a s).2.ev = s.ev ∧ (readHalf a s).2.resetLow = s.resetLow ∧ (readHalf a s).2.pending = s.pending := by
  unfold readHalf; (repeat' split) <;> simp

/-- What `readHalves` leaves as it is. -/
@[simp] theorem readHalves_frame (n a : Nat) (s : State) :
    (readHalves n a s).2.ports = s.ports ∧ (readHalves n a s).2.tsets = s.tsets ∧ (readHalves n a s).2.seg = s.seg ∧
    (readHalves n a s).2.walker = s.walker ∧ (readHalves n a s).2.queue = s.queue ∧ (readHalves n a s).2.app = s.app ∧
    (readHalves n a s).2.run = s.run ∧ (readHalves n a s).2.log = s.log ∧ (readHalves n a s).2.trig = s.trig ∧
    (readHalves n a s).2.mem = s.mem ∧ (readHalves n a s).2.dram = s.dram ∧ (readHalves n a s).2.win = s.win ∧
    (readHalves n a s).2.ev = s.ev ∧ (readHalves n a s).2.resetLow = s.resetLow ∧
    (readHalves n a s).2.pending = s.pending := by
  induction n generalizing a s with
  | zero => simp [readHalves]
  | succ n ih => simp [readHalves, ih]

/-- What `writeHalves` leaves as it is. -/
@[simp] theorem writeHalves_frame (a : Nat) (vs : List HW) (s : State) :
    (writeHalves a vs s).ports = s.ports ∧ (writeHalves a vs s).tsets = s.tsets ∧
    (writeHalves a vs s).seg = s.seg ∧ (writeHalves a vs s).walker = s.walker ∧
    (writeHalves a vs s).queue = s.queue ∧ (writeHalves a vs s).app = s.app ∧ (writeHalves a vs s).run = s.run ∧
    (writeHalves a vs s).log = s.log ∧ (writeHalves a vs s).trig = s.trig ∧ (writeHalves a vs s).mem = s.mem ∧
    (writeHalves a vs s).win = s.win ∧ (writeHalves a vs s).ev = s.ev ∧
    (writeHalves a vs s).resetLow = s.resetLow ∧ (writeHalves a vs s).free = s.free ∧
    (writeHalves a vs s).pending = s.pending ∧ (writeHalves a vs s).dram.epoch = s.dram.epoch ∧
    (writeHalves a vs s).dram.decayed = s.dram.decayed := by simp [writeHalves]

/-- What `writePosted` leaves as it is. -/
@[simp] theorem writePosted_frame (ws : List PostedWrite) (s : State) :
    (writePosted ws s).ports = s.ports ∧ (writePosted ws s).tsets = s.tsets ∧ (writePosted ws s).seg = s.seg ∧
    (writePosted ws s).walker = s.walker ∧ (writePosted ws s).queue = s.queue ∧ (writePosted ws s).app = s.app ∧
    (writePosted ws s).run = s.run ∧ (writePosted ws s).log = s.log ∧ (writePosted ws s).trig = s.trig ∧
    (writePosted ws s).mem = s.mem ∧ (writePosted ws s).win = s.win ∧ (writePosted ws s).ev = s.ev ∧
    (writePosted ws s).resetLow = s.resetLow ∧ (writePosted ws s).free = s.free ∧
    (writePosted ws s).pending = s.pending ∧ (writePosted ws s).dram.epoch = s.dram.epoch ∧
    (writePosted ws s).dram.decayed = s.dram.decayed := by simp [writePosted]

/-- What `arbitrate` leaves as it is. -/
@[simp] theorem arbitrate_frame (s : State) :
    (arbitrate s).ports = s.ports ∧ (arbitrate s).tsets = s.tsets ∧ (arbitrate s).seg = s.seg ∧
    (arbitrate s).walker = s.walker ∧ (arbitrate s).queue = s.queue ∧ (arbitrate s).app = s.app ∧
    (arbitrate s).run = s.run ∧ (arbitrate s).log = s.log ∧ (arbitrate s).trig = s.trig ∧
    (arbitrate s).dram = s.dram ∧ (arbitrate s).win = s.win ∧ (arbitrate s).ev = s.ev ∧
    (arbitrate s).resetLow = s.resetLow ∧ (arbitrate s).free = s.free ∧ (arbitrate s).pending = s.pending ∧
    (arbitrate s).mem.ready = s.mem.ready ∧ (arbitrate s).mem.msize = s.mem.msize ∧
    (arbitrate s).mem.initTicks = s.mem.initTicks ∧ (arbitrate s).mem.zones = s.mem.zones ∧
    (arbitrate s).mem.zonesel = s.mem.zonesel ∧ (arbitrate s).mem.refint = s.mem.refint ∧
    (arbitrate s).mem.refTimer = s.mem.refTimer ∧ (arbitrate s).mem.owed = s.mem.owed ∧
    (arbitrate s).mem.refmiss = s.mem.refmiss := by unfold arbitrate; split <;> simp

/-- What `freePort` leaves as it is. -/
@[simp] theorem freePort_frame (s : State) :
    (freePort s).ports = s.ports ∧ (freePort s).tsets = s.tsets ∧ (freePort s).seg = s.seg ∧
    (freePort s).walker = s.walker ∧ (freePort s).queue = s.queue ∧ (freePort s).app = s.app ∧
    (freePort s).run = s.run ∧ (freePort s).log = s.log ∧ (freePort s).trig = s.trig ∧
    (freePort s).dram = s.dram ∧ (freePort s).win = s.win ∧ (freePort s).ev = s.ev ∧
    (freePort s).resetLow = s.resetLow ∧ (freePort s).free = s.free ∧ (freePort s).pending = s.pending ∧
    (freePort s).mem.ready = s.mem.ready ∧ (freePort s).mem.msize = s.mem.msize ∧
    (freePort s).mem.initTicks = s.mem.initTicks ∧ (freePort s).mem.zones = s.mem.zones ∧
    (freePort s).mem.zonesel = s.mem.zonesel ∧ (freePort s).mem.refint = s.mem.refint ∧
    (freePort s).mem.refTimer = s.mem.refTimer ∧ (freePort s).mem.owed = s.mem.owed ∧
    (freePort s).mem.refmiss = s.mem.refmiss ∧ (freePort s).mem.passover = s.mem.passover := by simp [freePort]


/-! ## Pins and output lines -/

/-- What `parkAll` leaves as it is. -/
@[simp] theorem parkAll_frame (s : State) :
    (parkAll s).tsets = s.tsets ∧ (parkAll s).seg = s.seg ∧ (parkAll s).walker = s.walker ∧
    (parkAll s).queue = s.queue ∧ (parkAll s).app = s.app ∧ (parkAll s).run = s.run ∧ (parkAll s).log = s.log ∧
    (parkAll s).trig = s.trig ∧ (parkAll s).mem = s.mem ∧ (parkAll s).dram = s.dram ∧ (parkAll s).win = s.win ∧
    (parkAll s).ev = s.ev ∧ (parkAll s).resetLow = s.resetLow ∧ (parkAll s).free = s.free ∧
    (parkAll s).pending = s.pending ∧ (parkAll s).ports.cfg = s.ports.cfg := by simp [parkAll]

/-- What `linesOn` leaves as it is. -/
@[simp] theorem linesOn_frame (m : TrgMode) (s : State) :
    (linesOn m s).ports = s.ports ∧ (linesOn m s).tsets = s.tsets ∧ (linesOn m s).seg = s.seg ∧
    (linesOn m s).walker = s.walker ∧ (linesOn m s).queue = s.queue ∧ (linesOn m s).app = s.app ∧
    (linesOn m s).run = s.run ∧ (linesOn m s).log = s.log ∧ (linesOn m s).mem = s.mem ∧
    (linesOn m s).dram = s.dram ∧ (linesOn m s).win = s.win ∧ (linesOn m s).ev = s.ev ∧
    (linesOn m s).resetLow = s.resetLow ∧ (linesOn m s).free = s.free ∧ (linesOn m s).pending = s.pending ∧
    (linesOn m s).trig.lines = s.trig.lines ∧ (linesOn m s).trig.latch = s.trig.latch := by simp [linesOn]

/-- What `linesOff` leaves as it is. -/
@[simp] theorem linesOff_frame (m : TrgMode) (s : State) :
    (linesOff m s).ports = s.ports ∧ (linesOff m s).tsets = s.tsets ∧ (linesOff m s).seg = s.seg ∧
    (linesOff m s).walker = s.walker ∧ (linesOff m s).queue = s.queue ∧ (linesOff m s).app = s.app ∧
    (linesOff m s).run = s.run ∧ (linesOff m s).log = s.log ∧ (linesOff m s).mem = s.mem ∧
    (linesOff m s).dram = s.dram ∧ (linesOff m s).win = s.win ∧ (linesOff m s).ev = s.ev ∧
    (linesOff m s).resetLow = s.resetLow ∧ (linesOff m s).free = s.free ∧ (linesOff m s).pending = s.pending ∧
    (linesOff m s).trig.lines = s.trig.lines ∧ (linesOff m s).trig.latch = s.trig.latch := by simp [linesOff]

/-- What `periodStartIndication` leaves as it is. -/
@[simp] theorem periodStartIndication_frame (s : State) :
    (periodStartIndication s).ports = s.ports ∧ (periodStartIndication s).tsets = s.tsets ∧
    (periodStartIndication s).seg = s.seg ∧ (periodStartIndication s).walker = s.walker ∧
    (periodStartIndication s).queue = s.queue ∧ (periodStartIndication s).app = s.app ∧
    (periodStartIndication s).run = s.run ∧ (periodStartIndication s).log = s.log ∧
    (periodStartIndication s).mem = s.mem ∧ (periodStartIndication s).dram = s.dram ∧
    (periodStartIndication s).win = s.win ∧ (periodStartIndication s).ev = s.ev ∧
    (periodStartIndication s).resetLow = s.resetLow ∧ (periodStartIndication s).free = s.free ∧
    (periodStartIndication s).pending = s.pending ∧ (periodStartIndication s).trig.lines = s.trig.lines ∧
    (periodStartIndication s).trig.latch = s.trig.latch := by simp [periodStartIndication]

/-- What `linesAllOff` leaves as it is. -/
@[simp] theorem linesAllOff_frame (s : State) :
    (linesAllOff s).ports = s.ports ∧ (linesAllOff s).tsets = s.tsets ∧ (linesAllOff s).seg = s.seg ∧
    (linesAllOff s).walker = s.walker ∧ (linesAllOff s).queue = s.queue ∧ (linesAllOff s).app = s.app ∧
    (linesAllOff s).run = s.run ∧ (linesAllOff s).log = s.log ∧ (linesAllOff s).mem = s.mem ∧
    (linesAllOff s).dram = s.dram ∧ (linesAllOff s).win = s.win ∧ (linesAllOff s).ev = s.ev ∧
    (linesAllOff s).resetLow = s.resetLow ∧ (linesAllOff s).free = s.free ∧ (linesAllOff s).pending = s.pending ∧
    (linesAllOff s).trig.lines = s.trig.lines ∧ (linesAllOff s).trig.latch = s.trig.latch := by simp [linesAllOff]


/-! ## Log records and the drain -/

/-- What `produceRecord` leaves as it is. -/
@[simp] theorem produceRecord_frame (r : LogRecord) (s : State) :
    (produceRecord r s).ports = s.ports ∧ (produceRecord r s).tsets = s.tsets ∧ (produceRecord r s).seg = s.seg ∧
    (produceRecord r s).walker = s.walker ∧ (produceRecord r s).queue = s.queue ∧
    (produceRecord r s).app = s.app ∧ (produceRecord r s).run = s.run ∧ (produceRecord r s).trig = s.trig ∧
    (produceRecord r s).mem = s.mem ∧ (produceRecord r s).dram = s.dram ∧ (produceRecord r s).win = s.win ∧
    (produceRecord r s).resetLow = s.resetLow ∧ (produceRecord r s).free = s.free ∧
    (produceRecord r s).pending = s.pending ∧ (produceRecord r s).log.base = s.log.base ∧
    (produceRecord r s).log.size = s.log.size ∧ (produceRecord r s).log.level = s.log.level ∧
    (produceRecord r s).log.wp = s.log.wp ∧ (produceRecord r s).log.rp = s.log.rp ∧
    (produceRecord r s).log.endProduced = s.log.endProduced ∧ (produceRecord r s).ev.enables = s.ev.enables ∧
    (produceRecord r s).ev.master = s.ev.master := by simp only [produceRecord]; (repeat' split) <;> simp

/-- What `produceEndWhenEmpty` leaves as it is. -/
@[simp] theorem produceEndWhenEmpty_frame (s : State) :
    (produceEndWhenEmpty s).ports = s.ports ∧ (produceEndWhenEmpty s).tsets = s.tsets ∧
    (produceEndWhenEmpty s).seg = s.seg ∧ (produceEndWhenEmpty s).walker = s.walker ∧
    (produceEndWhenEmpty s).queue = s.queue ∧ (produceEndWhenEmpty s).app = s.app ∧
    (produceEndWhenEmpty s).run = s.run ∧ (produceEndWhenEmpty s).trig = s.trig ∧
    (produceEndWhenEmpty s).mem = s.mem ∧ (produceEndWhenEmpty s).dram = s.dram ∧
    (produceEndWhenEmpty s).win = s.win ∧ (produceEndWhenEmpty s).resetLow = s.resetLow ∧
    (produceEndWhenEmpty s).free = s.free ∧ (produceEndWhenEmpty s).pending = s.pending ∧
    (produceEndWhenEmpty s).log.base = s.log.base ∧ (produceEndWhenEmpty s).log.size = s.log.size ∧
    (produceEndWhenEmpty s).log.level = s.log.level ∧ (produceEndWhenEmpty s).log.wp = s.log.wp ∧
    (produceEndWhenEmpty s).log.rp = s.log.rp ∧ (produceEndWhenEmpty s).ev.enables = s.ev.enables ∧
    (produceEndWhenEmpty s).ev.master = s.ev.master := by unfold produceEndWhenEmpty; split <;> simp

/-- What `beginDrain` leaves as it is. -/
@[simp] theorem beginDrain_frame (s : State) :
    (beginDrain s).ports = s.ports ∧ (beginDrain s).tsets = s.tsets ∧ (beginDrain s).seg = s.seg ∧
    (beginDrain s).walker = s.walker ∧ (beginDrain s).queue = s.queue ∧ (beginDrain s).app = s.app ∧
    (beginDrain s).run = s.run ∧ (beginDrain s).trig = s.trig ∧ (beginDrain s).mem = s.mem ∧
    (beginDrain s).dram = s.dram ∧ (beginDrain s).win = s.win ∧ (beginDrain s).resetLow = s.resetLow ∧
    (beginDrain s).free = s.free ∧ (beginDrain s).pending = s.pending ∧ (beginDrain s).log.base = s.log.base ∧
    (beginDrain s).log.size = s.log.size ∧ (beginDrain s).log.level = s.log.level ∧
    (beginDrain s).log.wp = s.log.wp ∧ (beginDrain s).log.rp = s.log.rp ∧
    (beginDrain s).ev.enables = s.ev.enables ∧ (beginDrain s).ev.master = s.ev.master := by simp [beginDrain]

/-- What `drainComplete` leaves as it is. -/
@[simp] theorem drainComplete_frame (s : State) :
    (drainComplete s).ports = s.ports ∧ (drainComplete s).tsets = s.tsets ∧ (drainComplete s).seg = s.seg ∧
    (drainComplete s).walker = s.walker ∧ (drainComplete s).queue = s.queue ∧ (drainComplete s).app = s.app ∧
    (drainComplete s).log = s.log ∧ (drainComplete s).trig = s.trig ∧ (drainComplete s).mem = s.mem ∧
    (drainComplete s).dram = s.dram ∧ (drainComplete s).win = s.win ∧ (drainComplete s).resetLow = s.resetLow ∧
    (drainComplete s).free = s.free ∧ (drainComplete s).pending = s.pending ∧
    (drainComplete s).run.cause = s.run.cause ∧ (drainComplete s).run.suspended = s.run.suspended ∧
    (drainComplete s).run.fault = s.run.fault ∧ (drainComplete s).run.bp = s.run.bp ∧
    (drainComplete s).run.armcfg = s.run.armcfg ∧ (drainComplete s).run.starveto = s.run.starveto ∧
    (drainComplete s).run.failPause = s.run.failPause ∧ (drainComplete s).run.faillimit = s.run.faillimit ∧
    (drainComplete s).run.stopReq = s.run.stopReq ∧ (drainComplete s).run.pauseFail = s.run.pauseFail ∧
    (drainComplete s).run.pauseHost = s.run.pauseHost ∧ (drainComplete s).run.pauseStep = s.run.pauseStep ∧
    (drainComplete s).run.stepReq = s.run.stepReq ∧ (drainComplete s).run.starve = s.run.starve ∧
    (drainComplete s).run.drainAborted = s.run.drainAborted ∧ (drainComplete s).ev.enables = s.ev.enables ∧
    (drainComplete s).ev.master = s.ev.master := by unfold drainComplete; split <;> simp

/-- What `shortenDrain` leaves as it is. -/
@[simp] theorem shortenDrain_frame (s : State) :
    (shortenDrain s).ports = s.ports ∧ (shortenDrain s).tsets = s.tsets ∧ (shortenDrain s).seg = s.seg ∧
    (shortenDrain s).walker = s.walker ∧ (shortenDrain s).queue = s.queue ∧ (shortenDrain s).app = s.app ∧
    (shortenDrain s).trig = s.trig ∧ (shortenDrain s).mem = s.mem ∧ (shortenDrain s).dram = s.dram ∧
    (shortenDrain s).win = s.win ∧ (shortenDrain s).resetLow = s.resetLow ∧ (shortenDrain s).free = s.free ∧
    (shortenDrain s).pending = s.pending ∧ (shortenDrain s).run.cause = s.run.cause ∧
    (shortenDrain s).run.suspended = s.run.suspended ∧ (shortenDrain s).run.fault = s.run.fault ∧
    (shortenDrain s).run.bp = s.run.bp ∧ (shortenDrain s).run.armcfg = s.run.armcfg ∧
    (shortenDrain s).run.starveto = s.run.starveto ∧ (shortenDrain s).run.failPause = s.run.failPause ∧
    (shortenDrain s).run.faillimit = s.run.faillimit ∧ (shortenDrain s).run.stopReq = s.run.stopReq ∧
    (shortenDrain s).run.pauseFail = s.run.pauseFail ∧ (shortenDrain s).run.pauseHost = s.run.pauseHost ∧
    (shortenDrain s).run.pauseStep = s.run.pauseStep ∧ (shortenDrain s).run.stepReq = s.run.stepReq ∧
    (shortenDrain s).run.starve = s.run.starve ∧ (shortenDrain s).log.seqno = s.log.seqno ∧
    (shortenDrain s).log.base = s.log.base ∧ (shortenDrain s).log.size = s.log.size ∧
    (shortenDrain s).log.level = s.log.level ∧ (shortenDrain s).log.wp = s.log.wp ∧
    (shortenDrain s).log.rp = s.log.rp ∧ (shortenDrain s).log.endProduced = s.log.endProduced ∧
    (shortenDrain s).ev.enables = s.ev.enables ∧ (shortenDrain s).ev.master = s.ev.master := by
  simp only [shortenDrain]; (repeat' split) <;> simp

/-- What `drainAfterPublication` leaves as it is. -/
@[simp] theorem drainAfterPublication_frame (r : LogRecord) (s : State) :
    (drainAfterPublication r s).ports = s.ports ∧ (drainAfterPublication r s).tsets = s.tsets ∧
    (drainAfterPublication r s).seg = s.seg ∧ (drainAfterPublication r s).walker = s.walker ∧
    (drainAfterPublication r s).queue = s.queue ∧ (drainAfterPublication r s).app = s.app ∧
    (drainAfterPublication r s).trig = s.trig ∧ (drainAfterPublication r s).mem = s.mem ∧
    (drainAfterPublication r s).dram = s.dram ∧ (drainAfterPublication r s).win = s.win ∧
    (drainAfterPublication r s).resetLow = s.resetLow ∧ (drainAfterPublication r s).free = s.free ∧
    (drainAfterPublication r s).pending = s.pending ∧ (drainAfterPublication r s).run.cause = s.run.cause ∧
    (drainAfterPublication r s).run.suspended = s.run.suspended ∧
    (drainAfterPublication r s).run.fault = s.run.fault ∧ (drainAfterPublication r s).run.bp = s.run.bp ∧
    (drainAfterPublication r s).run.armcfg = s.run.armcfg ∧
    (drainAfterPublication r s).run.starveto = s.run.starveto ∧
    (drainAfterPublication r s).run.failPause = s.run.failPause ∧
    (drainAfterPublication r s).run.faillimit = s.run.faillimit ∧
    (drainAfterPublication r s).run.stopReq = s.run.stopReq ∧
    (drainAfterPublication r s).run.pauseFail = s.run.pauseFail ∧
    (drainAfterPublication r s).run.pauseHost = s.run.pauseHost ∧
    (drainAfterPublication r s).run.pauseStep = s.run.pauseStep ∧
    (drainAfterPublication r s).run.stepReq = s.run.stepReq ∧
    (drainAfterPublication r s).run.starve = s.run.starve ∧
    (drainAfterPublication r s).run.drainAborted = s.run.drainAborted ∧
    (drainAfterPublication r s).log.base = s.log.base ∧ (drainAfterPublication r s).log.size = s.log.size ∧
    (drainAfterPublication r s).log.level = s.log.level ∧ (drainAfterPublication r s).log.wp = s.log.wp ∧
    (drainAfterPublication r s).log.rp = s.log.rp ∧ (drainAfterPublication r s).ev.enables = s.ev.enables ∧
    (drainAfterPublication r s).ev.master = s.ev.master := by unfold drainAfterPublication; (repeat' split) <;> simp

/-- What `publish` leaves as it is. -/
@[simp] theorem publish_frame (r : LogRecord) (rest : List LogRecord) (s : State) :
    (publish r rest s).ports = s.ports ∧ (publish r rest s).tsets = s.tsets ∧ (publish r rest s).seg = s.seg ∧
    (publish r rest s).walker = s.walker ∧ (publish r rest s).queue = s.queue ∧ (publish r rest s).app = s.app ∧
    (publish r rest s).trig = s.trig ∧ (publish r rest s).mem = s.mem ∧ (publish r rest s).win = s.win ∧
    (publish r rest s).resetLow = s.resetLow ∧ (publish r rest s).free = s.free ∧
    (publish r rest s).pending = s.pending ∧ (publish r rest s).run.cause = s.run.cause ∧
    (publish r rest s).run.suspended = s.run.suspended ∧ (publish r rest s).run.fault = s.run.fault ∧
    (publish r rest s).run.bp = s.run.bp ∧ (publish r rest s).run.armcfg = s.run.armcfg ∧
    (publish r rest s).run.starveto = s.run.starveto ∧ (publish r rest s).run.failPause = s.run.failPause ∧
    (publish r rest s).run.faillimit = s.run.faillimit ∧ (publish r rest s).run.stopReq = s.run.stopReq ∧
    (publish r rest s).run.pauseFail = s.run.pauseFail ∧ (publish r rest s).run.pauseHost = s.run.pauseHost ∧
    (publish r rest s).run.pauseStep = s.run.pauseStep ∧ (publish r rest s).run.stepReq = s.run.stepReq ∧
    (publish r rest s).run.starve = s.run.starve ∧ (publish r rest s).run.drainAborted = s.run.drainAborted ∧
    (publish r rest s).log.base = s.log.base ∧ (publish r rest s).log.size = s.log.size ∧
    (publish r rest s).log.level = s.log.level ∧ (publish r rest s).log.rp = s.log.rp ∧
    (publish r rest s).dram.epoch = s.dram.epoch ∧ (publish r rest s).dram.decayed = s.dram.decayed ∧
    (publish r rest s).ev.enables = s.ev.enables ∧ (publish r rest s).ev.master = s.ev.master := by simp [publish]

end Sys2Proof.Machine
end

