-- ==== Sys2Proof/Laws/Walker.lean ====
section
/-! SUPPORT. The frames of the walker's operations: which fields of the state each leaves as they are. -/

namespace Sys2Proof.Machine

set_option Elab.async false

/-! ## The walker -/

/-- What `pushItem` leaves as it is. -/
@[simp] theorem pushItem_frame (it : Item) (s : State) :
    (pushItem it s).ports = s.ports ∧ (pushItem it s).tsets = s.tsets ∧ (pushItem it s).seg = s.seg ∧
    (pushItem it s).walker = s.walker ∧ (pushItem it s).app = s.app ∧ (pushItem it s).run = s.run ∧
    (pushItem it s).log = s.log ∧ (pushItem it s).trig = s.trig ∧ (pushItem it s).mem = s.mem ∧
    (pushItem it s).dram = s.dram ∧ (pushItem it s).win = s.win ∧ (pushItem it s).ev = s.ev ∧
    (pushItem it s).resetLow = s.resetLow ∧ (pushItem it s).free = s.free ∧ (pushItem it s).pending = s.pending := by
  simp [pushItem]

/-- What `queueTest` leaves as it is. -/
@[simp] theorem queueTest_frame (s : State) :
    (queueTest s).ports = s.ports ∧ (queueTest s).tsets = s.tsets ∧ (queueTest s).seg = s.seg ∧
    (queueTest s).queue = s.queue ∧ (queueTest s).app = s.app ∧ (queueTest s).run = s.run ∧
    (queueTest s).log = s.log ∧ (queueTest s).trig = s.trig ∧ (queueTest s).mem = s.mem ∧
    (queueTest s).dram = s.dram ∧ (queueTest s).win = s.win ∧ (queueTest s).ev = s.ev ∧
    (queueTest s).resetLow = s.resetLow ∧ (queueTest s).free = s.free ∧ (queueTest s).pending = s.pending ∧
    (queueTest s).walker.cur = s.walker.cur ∧ (queueTest s).walker.pend = s.walker.pend ∧
    (queueTest s).walker.next = s.walker.next ∧ (queueTest s).walker.tags = s.walker.tags ∧
    (queueTest s).walker.fetchAddr = s.walker.fetchAddr ∧ (queueTest s).walker.stack = s.walker.stack := by
  simp [queueTest]

/-- What `pushFault` leaves as it is. -/
@[simp] theorem pushFault_frame (code : FaultCode) (tags : Tags) (s : State) :
    (pushFault code tags s).ports = s.ports ∧ (pushFault code tags s).tsets = s.tsets ∧
    (pushFault code tags s).seg = s.seg ∧ (pushFault code tags s).app = s.app ∧
    (pushFault code tags s).run = s.run ∧ (pushFault code tags s).log = s.log ∧
    (pushFault code tags s).trig = s.trig ∧ (pushFault code tags s).mem = s.mem ∧
    (pushFault code tags s).dram = s.dram ∧ (pushFault code tags s).win = s.win ∧
    (pushFault code tags s).ev = s.ev ∧ (pushFault code tags s).resetLow = s.resetLow ∧
    (pushFault code tags s).free = s.free ∧ (pushFault code tags s).pending = s.pending ∧
    (pushFault code tags s).walker.cur = s.walker.cur ∧ (pushFault code tags s).walker.pend = s.walker.pend ∧
    (pushFault code tags s).walker.tags = s.walker.tags ∧
    (pushFault code tags s).walker.fetchAddr = s.walker.fetchAddr ∧
    (pushFault code tags s).walker.stack = s.walker.stack := by simp [pushFault]

/-- What `pushEnd` leaves as it is. -/
@[simp] theorem pushEnd_frame (s : State) :
    (pushEnd s).ports = s.ports ∧ (pushEnd s).tsets = s.tsets ∧ (pushEnd s).seg = s.seg ∧
    (pushEnd s).app = s.app ∧ (pushEnd s).run = s.run ∧ (pushEnd s).log = s.log ∧ (pushEnd s).trig = s.trig ∧
    (pushEnd s).mem = s.mem ∧ (pushEnd s).dram = s.dram ∧ (pushEnd s).win = s.win ∧ (pushEnd s).ev = s.ev ∧
    (pushEnd s).resetLow = s.resetLow ∧ (pushEnd s).free = s.free ∧ (pushEnd s).pending = s.pending ∧
    (pushEnd s).walker.pend = s.walker.pend ∧ (pushEnd s).walker.tags = s.walker.tags ∧
    (pushEnd s).walker.fetchAddr = s.walker.fetchAddr ∧ (pushEnd s).walker.stack = s.walker.stack := by simp [pushEnd]

/-- What `startIteration` leaves as it is. -/
@[simp] theorem startIteration_frame (e : SegImage) (s : State) :
    (startIteration e s).ports = s.ports ∧ (startIteration e s).tsets = s.tsets ∧
    (startIteration e s).seg = s.seg ∧ (startIteration e s).queue = s.queue ∧ (startIteration e s).app = s.app ∧
    (startIteration e s).run = s.run ∧ (startIteration e s).log = s.log ∧ (startIteration e s).trig = s.trig ∧
    (startIteration e s).mem = s.mem ∧ (startIteration e s).dram = s.dram ∧ (startIteration e s).win = s.win ∧
    (startIteration e s).ev = s.ev ∧ (startIteration e s).resetLow = s.resetLow ∧
    (startIteration e s).free = s.free ∧ (startIteration e s).pending = s.pending ∧
    (startIteration e s).walker.st = s.walker.st ∧ (startIteration e s).walker.cur = s.walker.cur ∧
    (startIteration e s).walker.pend = s.walker.pend ∧ (startIteration e s).walker.next = s.walker.next ∧
    (startIteration e s).walker.tags = s.walker.tags ∧ (startIteration e s).walker.stack = s.walker.stack := by
  simp [startIteration]

/-- What `afterArrival` leaves as it is. -/
@[simp] theorem afterArrival_frame (e : SegImage) (s : State) :
    (afterArrival e s).ports = s.ports ∧ (afterArrival e s).tsets = s.tsets ∧ (afterArrival e s).seg = s.seg ∧
    (afterArrival e s).queue = s.queue ∧ (afterArrival e s).app = s.app ∧ (afterArrival e s).run = s.run ∧
    (afterArrival e s).log = s.log ∧ (afterArrival e s).trig = s.trig ∧ (afterArrival e s).mem = s.mem ∧
    (afterArrival e s).dram = s.dram ∧ (afterArrival e s).win = s.win ∧ (afterArrival e s).ev = s.ev ∧
    (afterArrival e s).resetLow = s.resetLow ∧ (afterArrival e s).free = s.free ∧
    (afterArrival e s).pending = s.pending ∧ (afterArrival e s).walker.st = s.walker.st ∧
    (afterArrival e s).walker.cur = s.walker.cur ∧ (afterArrival e s).walker.pend = s.walker.pend ∧
    (afterArrival e s).walker.tags = s.walker.tags ∧ (afterArrival e s).walker.stack = s.walker.stack := by
  unfold afterArrival; split <;> simp

/-- What `takeEntry` leaves as it is. -/
@[simp] theorem takeEntry_frame (i : SegIdx) (e : SegImage) (loopBack : Bool) (s : State) :
    (takeEntry i e loopBack s).ports = s.ports ∧ (takeEntry i e loopBack s).tsets = s.tsets ∧
    (takeEntry i e loopBack s).seg = s.seg ∧ (takeEntry i e loopBack s).app = s.app ∧
    (takeEntry i e loopBack s).run = s.run ∧ (takeEntry i e loopBack s).log = s.log ∧
    (takeEntry i e loopBack s).trig = s.trig ∧ (takeEntry i e loopBack s).mem = s.mem ∧
    (takeEntry i e loopBack s).dram = s.dram ∧ (takeEntry i e loopBack s).win = s.win ∧
    (takeEntry i e loopBack s).ev = s.ev ∧ (takeEntry i e loopBack s).resetLow = s.resetLow ∧
    (takeEntry i e loopBack s).free = s.free ∧ (takeEntry i e loopBack s).pending = s.pending := by
  simp only [takeEntry]; (repeat' split) <;> simp

/-- What `walkerArrive` leaves as it is. -/
@[simp] theorem walkerArrive_frame (i : SegIdx) (loopBack : Bool) (s : State) :
    (walkerArrive i loopBack s).ports = s.ports ∧ (walkerArrive i loopBack s).tsets = s.tsets ∧
    (walkerArrive i loopBack s).seg = s.seg ∧ (walkerArrive i loopBack s).app = s.app ∧
    (walkerArrive i loopBack s).run = s.run ∧ (walkerArrive i loopBack s).log = s.log ∧
    (walkerArrive i loopBack s).trig = s.trig ∧ (walkerArrive i loopBack s).mem = s.mem ∧
    (walkerArrive i loopBack s).dram = s.dram ∧ (walkerArrive i loopBack s).win = s.win ∧
    (walkerArrive i loopBack s).ev = s.ev ∧ (walkerArrive i loopBack s).resetLow = s.resetLow ∧
    (walkerArrive i loopBack s).free = s.free ∧ (walkerArrive i loopBack s).pending = s.pending := by
  simp only [walkerArrive]; (repeat' split) <;> simp

/-- What `release` leaves as it is. -/
@[simp] theorem release_frame (i : SegIdx) (s : State) :
    (release i s).ports = s.ports ∧ (release i s).tsets = s.tsets ∧ (release i s).walker = s.walker ∧
    (release i s).queue = s.queue ∧ (release i s).app = s.app ∧ (release i s).run = s.run ∧
    (release i s).log = s.log ∧ (release i s).trig = s.trig ∧ (release i s).mem = s.mem ∧
    (release i s).dram = s.dram ∧ (release i s).win = s.win ∧ (release i s).resetLow = s.resetLow ∧
    (release i s).free = s.free ∧ (release i s).pending = s.pending ∧ (release i s).seg.stage = s.seg.stage ∧
    (release i s).seg.startseg = s.seg.startseg ∧ (release i s).ev.enables = s.ev.enables ∧
    (release i s).ev.master = s.ev.master := by simp [release]

/-- What `releaseIfFree` leaves as it is. -/
@[simp] theorem releaseIfFree_frame (i : SegIdx) (s : State) :
    (releaseIfFree i s).ports = s.ports ∧ (releaseIfFree i s).tsets = s.tsets ∧
    (releaseIfFree i s).walker = s.walker ∧ (releaseIfFree i s).queue = s.queue ∧
    (releaseIfFree i s).app = s.app ∧ (releaseIfFree i s).run = s.run ∧ (releaseIfFree i s).log = s.log ∧
    (releaseIfFree i s).trig = s.trig ∧ (releaseIfFree i s).mem = s.mem ∧ (releaseIfFree i s).dram = s.dram ∧
    (releaseIfFree i s).win = s.win ∧ (releaseIfFree i s).resetLow = s.resetLow ∧
    (releaseIfFree i s).free = s.free ∧ (releaseIfFree i s).pending = s.pending ∧
    (releaseIfFree i s).seg.stage = s.seg.stage ∧ (releaseIfFree i s).seg.startseg = s.seg.startseg ∧
    (releaseIfFree i s).ev.enables = s.ev.enables ∧ (releaseIfFree i s).ev.master = s.ev.master := by
  unfold releaseIfFree; split <;> simp

/-- What `goTo` leaves as it is. -/
@[simp] theorem goTo_frame (d : SegIdx) (loopBack : Bool) (s : State) :
    (goTo d loopBack s).ports = s.ports ∧ (goTo d loopBack s).tsets = s.tsets ∧ (goTo d loopBack s).seg = s.seg ∧
    (goTo d loopBack s).queue = s.queue ∧ (goTo d loopBack s).app = s.app ∧ (goTo d loopBack s).run = s.run ∧
    (goTo d loopBack s).log = s.log ∧ (goTo d loopBack s).trig = s.trig ∧ (goTo d loopBack s).mem = s.mem ∧
    (goTo d loopBack s).dram = s.dram ∧ (goTo d loopBack s).win = s.win ∧ (goTo d loopBack s).ev = s.ev ∧
    (goTo d loopBack s).resetLow = s.resetLow ∧ (goTo d loopBack s).free = s.free ∧
    (goTo d loopBack s).pending = s.pending ∧ (goTo d loopBack s).walker.pend = s.walker.pend ∧
    (goTo d loopBack s).walker.tags = s.walker.tags ∧ (goTo d loopBack s).walker.fetchAddr = s.walker.fetchAddr ∧
    (goTo d loopBack s).walker.stack = s.walker.stack := by simp [goTo]

/-- What `followLink` leaves as it is. -/
@[simp] theorem followLink_frame (i : SegIdx) (dest : Link) (s : State) :
    (followLink i dest s).ports = s.ports ∧ (followLink i dest s).tsets = s.tsets ∧
    (followLink i dest s).app = s.app ∧ (followLink i dest s).run = s.run ∧ (followLink i dest s).log = s.log ∧
    (followLink i dest s).trig = s.trig ∧ (followLink i dest s).mem = s.mem ∧
    (followLink i dest s).dram = s.dram ∧ (followLink i dest s).win = s.win ∧
    (followLink i dest s).resetLow = s.resetLow ∧ (followLink i dest s).free = s.free ∧
    (followLink i dest s).pending = s.pending ∧ (followLink i dest s).seg.stage = s.seg.stage ∧
    (followLink i dest s).seg.startseg = s.seg.startseg ∧ (followLink i dest s).walker.pend = s.walker.pend ∧
    (followLink i dest s).walker.tags = s.walker.tags ∧
    (followLink i dest s).walker.fetchAddr = s.walker.fetchAddr ∧
    (followLink i dest s).walker.stack = s.walker.stack ∧ (followLink i dest s).ev.enables = s.ev.enables ∧
    (followLink i dest s).ev.master = s.ev.master := by unfold followLink; split <;> simp

/-- What `leaveOpen` leaves as it is. -/
@[simp] theorem leaveOpen_frame (i : SegIdx) (dest : Link) (tags : Tags) (s : State) :
    (leaveOpen i dest tags s).ports = s.ports ∧ (leaveOpen i dest tags s).tsets = s.tsets ∧
    (leaveOpen i dest tags s).app = s.app ∧ (leaveOpen i dest tags s).run = s.run ∧
    (leaveOpen i dest tags s).log = s.log ∧ (leaveOpen i dest tags s).trig = s.trig ∧
    (leaveOpen i dest tags s).mem = s.mem ∧ (leaveOpen i dest tags s).dram = s.dram ∧
    (leaveOpen i dest tags s).win = s.win ∧ (leaveOpen i dest tags s).resetLow = s.resetLow ∧
    (leaveOpen i dest tags s).free = s.free ∧ (leaveOpen i dest tags s).pending = s.pending ∧
    (leaveOpen i dest tags s).seg.stage = s.seg.stage ∧ (leaveOpen i dest tags s).seg.startseg = s.seg.startseg ∧
    (leaveOpen i dest tags s).walker.pend = s.walker.pend ∧
    (leaveOpen i dest tags s).walker.tags = s.walker.tags ∧
    (leaveOpen i dest tags s).walker.fetchAddr = s.walker.fetchAddr ∧
    (leaveOpen i dest tags s).walker.stack = s.walker.stack ∧
    (leaveOpen i dest tags s).ev.enables = s.ev.enables ∧ (leaveOpen i dest tags s).ev.master = s.ev.master := by
  unfold leaveOpen; split <;> simp

/-- What `loopBackTo` leaves as it is. -/
@[simp] theorem loopBackTo_frame (i : SegIdx) (top : LoopElem) (rest : List LoopElem) (s : State) :
    (loopBackTo i top rest s).ports = s.ports ∧ (loopBackTo i top rest s).tsets = s.tsets ∧
    (loopBackTo i top rest s).queue = s.queue ∧ (loopBackTo i top rest s).app = s.app ∧
    (loopBackTo i top rest s).run = s.run ∧ (loopBackTo i top rest s).log = s.log ∧
    (loopBackTo i top rest s).trig = s.trig ∧ (loopBackTo i top rest s).mem = s.mem ∧
    (loopBackTo i top rest s).dram = s.dram ∧ (loopBackTo i top rest s).win = s.win ∧
    (loopBackTo i top rest s).resetLow = s.resetLow ∧ (loopBackTo i top rest s).free = s.free ∧
    (loopBackTo i top rest s).pending = s.pending ∧ (loopBackTo i top rest s).seg.stage = s.seg.stage ∧
    (loopBackTo i top rest s).seg.startseg = s.seg.startseg ∧
    (loopBackTo i top rest s).walker.pend = s.walker.pend ∧
    (loopBackTo i top rest s).walker.fetchAddr = s.walker.fetchAddr ∧
    (loopBackTo i top rest s).ev.enables = s.ev.enables ∧ (loopBackTo i top rest s).ev.master = s.ev.master := by
  simp [loopBackTo]

/-- What `popAndLeave` leaves as it is. -/
@[simp] theorem popAndLeave_frame (i : SegIdx) (top : LoopElem) (rest : List LoopElem) (dest : Link) (s : State) :
    (popAndLeave i top rest dest s).ports = s.ports ∧ (popAndLeave i top rest dest s).tsets = s.tsets ∧
    (popAndLeave i top rest dest s).app = s.app ∧ (popAndLeave i top rest dest s).run = s.run ∧
    (popAndLeave i top rest dest s).log = s.log ∧ (popAndLeave i top rest dest s).trig = s.trig ∧
    (popAndLeave i top rest dest s).mem = s.mem ∧ (popAndLeave i top rest dest s).dram = s.dram ∧
    (popAndLeave i top rest dest s).win = s.win ∧ (popAndLeave i top rest dest s).resetLow = s.resetLow ∧
    (popAndLeave i top rest dest s).free = s.free ∧ (popAndLeave i top rest dest s).pending = s.pending ∧
    (popAndLeave i top rest dest s).seg.stage = s.seg.stage ∧
    (popAndLeave i top rest dest s).seg.startseg = s.seg.startseg ∧
    (popAndLeave i top rest dest s).walker.pend = s.walker.pend ∧
    (popAndLeave i top rest dest s).walker.fetchAddr = s.walker.fetchAddr ∧
    (popAndLeave i top rest dest s).ev.enables = s.ev.enables ∧
    (popAndLeave i top rest dest s).ev.master = s.ev.master := by unfold popAndLeave; split <;> simp

/-- What `leaveClosing` leaves as it is. -/
@[simp] theorem leaveClosing_frame (i : SegIdx) (dest : Link) (tags : Tags) (s : State) :
    (leaveClosing i dest tags s).ports = s.ports ∧ (leaveClosing i dest tags s).tsets = s.tsets ∧
    (leaveClosing i dest tags s).app = s.app ∧ (leaveClosing i dest tags s).run = s.run ∧
    (leaveClosing i dest tags s).log = s.log ∧ (leaveClosing i dest tags s).trig = s.trig ∧
    (leaveClosing i dest tags s).mem = s.mem ∧ (leaveClosing i dest tags s).dram = s.dram ∧
    (leaveClosing i dest tags s).win = s.win ∧ (leaveClosing i dest tags s).resetLow = s.resetLow ∧
    (leaveClosing i dest tags s).free = s.free ∧ (leaveClosing i dest tags s).pending = s.pending ∧
    (leaveClosing i dest tags s).seg.stage = s.seg.stage ∧
    (leaveClosing i dest tags s).seg.startseg = s.seg.startseg ∧
    (leaveClosing i dest tags s).walker.pend = s.walker.pend ∧
    (leaveClosing i dest tags s).walker.fetchAddr = s.walker.fetchAddr ∧
    (leaveClosing i dest tags s).ev.enables = s.ev.enables ∧ (leaveClosing i dest tags s).ev.master = s.ev.master := by
  unfold leaveClosing; (repeat' split) <;> simp

/-- What `leaveNormally` leaves as it is. -/
@[simp] theorem leaveNormally_frame (c : CurrentEntry) (s : State) :
    (leaveNormally c s).ports = s.ports ∧ (leaveNormally c s).tsets = s.tsets ∧ (leaveNormally c s).app = s.app ∧
    (leaveNormally c s).run = s.run ∧ (leaveNormally c s).log = s.log ∧ (leaveNormally c s).trig = s.trig ∧
    (leaveNormally c s).mem = s.mem ∧ (leaveNormally c s).dram = s.dram ∧ (leaveNormally c s).win = s.win ∧
    (leaveNormally c s).resetLow = s.resetLow ∧ (leaveNormally c s).free = s.free ∧
    (leaveNormally c s).pending = s.pending ∧ (leaveNormally c s).seg.stage = s.seg.stage ∧
    (leaveNormally c s).seg.startseg = s.seg.startseg ∧ (leaveNormally c s).walker.pend = s.walker.pend ∧
    (leaveNormally c s).walker.fetchAddr = s.walker.fetchAddr ∧ (leaveNormally c s).ev.enables = s.ev.enables ∧
    (leaveNormally c s).ev.master = s.ev.master := by unfold leaveNormally; split <;> simp

/-- What `leaveThroughAlt` leaves as it is. -/
@[simp] theorem leaveThroughAlt_frame (c : CurrentEntry) (s : State) :
    (leaveThroughAlt c s).ports = s.ports ∧ (leaveThroughAlt c s).tsets = s.tsets ∧
    (leaveThroughAlt c s).app = s.app ∧ (leaveThroughAlt c s).run = s.run ∧ (leaveThroughAlt c s).log = s.log ∧
    (leaveThroughAlt c s).trig = s.trig ∧ (leaveThroughAlt c s).mem = s.mem ∧
    (leaveThroughAlt c s).dram = s.dram ∧ (leaveThroughAlt c s).win = s.win ∧
    (leaveThroughAlt c s).resetLow = s.resetLow ∧ (leaveThroughAlt c s).free = s.free ∧
    (leaveThroughAlt c s).pending = s.pending ∧ (leaveThroughAlt c s).seg.stage = s.seg.stage ∧
    (leaveThroughAlt c s).seg.startseg = s.seg.startseg ∧ (leaveThroughAlt c s).walker.pend = s.walker.pend ∧
    (leaveThroughAlt c s).walker.fetchAddr = s.walker.fetchAddr ∧
    (leaveThroughAlt c s).ev.enables = s.ev.enables ∧ (leaveThroughAlt c s).ev.master = s.ev.master := by
  unfold leaveThroughAlt; split <;> simp

/-- What `skipTimedOut` leaves as it is. -/
@[simp] theorem skipTimedOut_frame (s : State) :
    (skipTimedOut s).ports = s.ports ∧ (skipTimedOut s).tsets = s.tsets ∧ (skipTimedOut s).seg = s.seg ∧
    (skipTimedOut s).queue = s.queue ∧ (skipTimedOut s).app = s.app ∧ (skipTimedOut s).run = s.run ∧
    (skipTimedOut s).log = s.log ∧ (skipTimedOut s).trig = s.trig ∧ (skipTimedOut s).mem = s.mem ∧
    (skipTimedOut s).dram = s.dram ∧ (skipTimedOut s).win = s.win ∧ (skipTimedOut s).ev = s.ev ∧
    (skipTimedOut s).resetLow = s.resetLow ∧ (skipTimedOut s).free = s.free ∧
    (skipTimedOut s).pending = s.pending ∧ (skipTimedOut s).walker.cur = s.walker.cur ∧
    (skipTimedOut s).walker.pend = s.walker.pend ∧ (skipTimedOut s).walker.tags = s.walker.tags ∧
    (skipTimedOut s).walker.fetchAddr = s.walker.fetchAddr ∧ (skipTimedOut s).walker.stack = s.walker.stack := by
  unfold skipTimedOut; split <;> simp

/-- What `walkerStart` leaves as it is. -/
@[simp] theorem walkerStart_frame (i : SegIdx) (s : State) :
    (walkerStart i s).ports = s.ports ∧ (walkerStart i s).tsets = s.tsets ∧ (walkerStart i s).seg = s.seg ∧
    (walkerStart i s).app = s.app ∧ (walkerStart i s).run = s.run ∧ (walkerStart i s).log = s.log ∧
    (walkerStart i s).trig = s.trig ∧ (walkerStart i s).mem = s.mem ∧ (walkerStart i s).dram = s.dram ∧
    (walkerStart i s).win = s.win ∧ (walkerStart i s).ev = s.ev ∧ (walkerStart i s).resetLow = s.resetLow ∧
    (walkerStart i s).free = s.free ∧ (walkerStart i s).pending = s.pending := by simp [walkerStart]

/-- What `discardWalkerGrant` leaves as it is. -/
@[simp] theorem discardWalkerGrant_frame (s : State) :
    (discardWalkerGrant s).ports = s.ports ∧ (discardWalkerGrant s).tsets = s.tsets ∧
    (discardWalkerGrant s).seg = s.seg ∧ (discardWalkerGrant s).walker = s.walker ∧
    (discardWalkerGrant s).queue = s.queue ∧ (discardWalkerGrant s).app = s.app ∧
    (discardWalkerGrant s).run = s.run ∧ (discardWalkerGrant s).log = s.log ∧
    (discardWalkerGrant s).trig = s.trig ∧ (discardWalkerGrant s).dram = s.dram ∧
    (discardWalkerGrant s).win = s.win ∧ (discardWalkerGrant s).ev = s.ev ∧
    (discardWalkerGrant s).resetLow = s.resetLow ∧ (discardWalkerGrant s).free = s.free ∧
    (discardWalkerGrant s).pending = s.pending ∧ (discardWalkerGrant s).mem.ready = s.mem.ready ∧
    (discardWalkerGrant s).mem.msize = s.mem.msize ∧ (discardWalkerGrant s).mem.initTicks = s.mem.initTicks ∧
    (discardWalkerGrant s).mem.zones = s.mem.zones ∧ (discardWalkerGrant s).mem.zonesel = s.mem.zonesel ∧
    (discardWalkerGrant s).mem.refint = s.mem.refint ∧ (discardWalkerGrant s).mem.refTimer = s.mem.refTimer ∧
    (discardWalkerGrant s).mem.owed = s.mem.owed ∧ (discardWalkerGrant s).mem.refmiss = s.mem.refmiss ∧
    (discardWalkerGrant s).mem.passover = s.mem.passover := by simp [discardWalkerGrant]

/-- What `walkerStop` leaves as it is. -/
@[simp] theorem walkerStop_frame (s : State) :
    (walkerStop s).ports = s.ports ∧ (walkerStop s).tsets = s.tsets ∧ (walkerStop s).seg = s.seg ∧
    (walkerStop s).app = s.app ∧ (walkerStop s).run = s.run ∧ (walkerStop s).log = s.log ∧
    (walkerStop s).trig = s.trig ∧ (walkerStop s).dram = s.dram ∧ (walkerStop s).win = s.win ∧
    (walkerStop s).ev = s.ev ∧ (walkerStop s).resetLow = s.resetLow ∧ (walkerStop s).free = s.free ∧
    (walkerStop s).pending = s.pending ∧ (walkerStop s).mem.ready = s.mem.ready ∧
    (walkerStop s).mem.msize = s.mem.msize ∧ (walkerStop s).mem.initTicks = s.mem.initTicks ∧
    (walkerStop s).mem.zones = s.mem.zones ∧ (walkerStop s).mem.zonesel = s.mem.zonesel ∧
    (walkerStop s).mem.refint = s.mem.refint ∧ (walkerStop s).mem.refTimer = s.mem.refTimer ∧
    (walkerStop s).mem.owed = s.mem.owed ∧ (walkerStop s).mem.refmiss = s.mem.refmiss ∧
    (walkerStop s).mem.passover = s.mem.passover := by simp [walkerStop]

/-- What `advanceFetch` leaves as it is. -/
@[simp] theorem advanceFetch_frame (e : SegImage) (len : Nat) (s : State) :
    (advanceFetch e len s).ports = s.ports ∧ (advanceFetch e len s).tsets = s.tsets ∧
    (advanceFetch e len s).seg = s.seg ∧ (advanceFetch e len s).queue = s.queue ∧
    (advanceFetch e len s).app = s.app ∧ (advanceFetch e len s).run = s.run ∧
    (advanceFetch e len s).log = s.log ∧ (advanceFetch e len s).trig = s.trig ∧
    (advanceFetch e len s).mem = s.mem ∧ (advanceFetch e len s).dram = s.dram ∧
    (advanceFetch e len s).win = s.win ∧ (advanceFetch e len s).ev = s.ev ∧
    (advanceFetch e len s).resetLow = s.resetLow ∧ (advanceFetch e len s).free = s.free ∧
    (advanceFetch e len s).pending = s.pending ∧ (advanceFetch e len s).walker.st = s.walker.st ∧
    (advanceFetch e len s).walker.cur = s.walker.cur ∧ (advanceFetch e len s).walker.pend = s.walker.pend ∧
    (advanceFetch e len s).walker.stack = s.walker.stack := by simp only [advanceFetch]; (repeat' split) <;> simp

/-- What `pushRecord` leaves as it is. -/
@[simp] theorem pushRecord_frame (e : SegImage) (h : HW) (body : List HW) (s : State) :
    (pushRecord e h body s).ports = s.ports ∧ (pushRecord e h body s).tsets = s.tsets ∧
    (pushRecord e h body s).seg = s.seg ∧ (pushRecord e h body s).app = s.app ∧
    (pushRecord e h body s).run = s.run ∧ (pushRecord e h body s).log = s.log ∧
    (pushRecord e h body s).trig = s.trig ∧ (pushRecord e h body s).mem = s.mem ∧
    (pushRecord e h body s).dram = s.dram ∧ (pushRecord e h body s).win = s.win ∧
    (pushRecord e h body s).ev = s.ev ∧ (pushRecord e h body s).resetLow = s.resetLow ∧
    (pushRecord e h body s).free = s.free ∧ (pushRecord e h body s).pending = s.pending ∧
    (pushRecord e h body s).walker.cur = s.walker.cur ∧ (pushRecord e h body s).walker.pend = s.walker.pend ∧
    (pushRecord e h body s).walker.stack = s.walker.stack := by simp only [pushRecord]; (repeat' split) <;> simp

/-- What `fetchRecord` leaves as it is. -/
@[simp] theorem fetchRecord_frame (e : SegImage) (s : State) :
    (fetchRecord e s).ports = s.ports ∧ (fetchRecord e s).tsets = s.tsets ∧ (fetchRecord e s).seg = s.seg ∧
    (fetchRecord e s).app = s.app ∧ (fetchRecord e s).run = s.run ∧ (fetchRecord e s).log = s.log ∧
    (fetchRecord e s).trig = s.trig ∧ (fetchRecord e s).mem = s.mem ∧ (fetchRecord e s).dram = s.dram ∧
    (fetchRecord e s).win = s.win ∧ (fetchRecord e s).ev = s.ev ∧ (fetchRecord e s).resetLow = s.resetLow ∧
    (fetchRecord e s).pending = s.pending ∧ (fetchRecord e s).walker.cur = s.walker.cur ∧
    (fetchRecord e s).walker.pend = s.walker.pend ∧ (fetchRecord e s).walker.stack = s.walker.stack := by
  simp only [fetchRecord]; (repeat' split) <;> simp

/-- What `pushWaitItem` leaves as it is. -/
@[simp] theorem pushWaitItem_frame (c : CurrentEntry) (s : State) :
    (pushWaitItem c s).ports = s.ports ∧ (pushWaitItem c s).tsets = s.tsets ∧ (pushWaitItem c s).seg = s.seg ∧
    (pushWaitItem c s).app = s.app ∧ (pushWaitItem c s).run = s.run ∧ (pushWaitItem c s).log = s.log ∧
    (pushWaitItem c s).trig = s.trig ∧ (pushWaitItem c s).mem = s.mem ∧ (pushWaitItem c s).dram = s.dram ∧
    (pushWaitItem c s).win = s.win ∧ (pushWaitItem c s).ev = s.ev ∧ (pushWaitItem c s).resetLow = s.resetLow ∧
    (pushWaitItem c s).free = s.free ∧ (pushWaitItem c s).pending = s.pending ∧
    (pushWaitItem c s).walker.cur = s.walker.cur ∧ (pushWaitItem c s).walker.pend = s.walker.pend ∧
    (pushWaitItem c s).walker.tags = s.walker.tags ∧
    (pushWaitItem c s).walker.stack = s.walker.stack := by simp only [pushWaitItem]; (repeat' split) <;> simp

/-- What `skipSatisfied` leaves as it is. -/
@[simp] theorem skipSatisfied_frame (s : State) :
    (skipSatisfied s).ports = s.ports ∧ (skipSatisfied s).tsets = s.tsets ∧ (skipSatisfied s).seg = s.seg ∧
    (skipSatisfied s).queue = s.queue ∧ (skipSatisfied s).app = s.app ∧ (skipSatisfied s).run = s.run ∧
    (skipSatisfied s).log = s.log ∧ (skipSatisfied s).trig = s.trig ∧ (skipSatisfied s).mem = s.mem ∧
    (skipSatisfied s).dram = s.dram ∧ (skipSatisfied s).win = s.win ∧ (skipSatisfied s).ev = s.ev ∧
    (skipSatisfied s).resetLow = s.resetLow ∧ (skipSatisfied s).free = s.free ∧
    (skipSatisfied s).pending = s.pending ∧ (skipSatisfied s).walker.cur = s.walker.cur ∧
    (skipSatisfied s).walker.pend = s.walker.pend ∧ (skipSatisfied s).walker.next = s.walker.next ∧
    (skipSatisfied s).walker.tags = s.walker.tags ∧ (skipSatisfied s).walker.stack = s.walker.stack := by
  simp only [skipSatisfied]; (repeat' split) <;> simp

/-! ## Walker steps -/

/-- What `recordFetch` leaves as it is. -/
@[simp] theorem recordFetch_frame (s : State) :
    (recordFetch s).ports = s.ports ∧ (recordFetch s).tsets = s.tsets ∧ (recordFetch s).seg = s.seg ∧
    (recordFetch s).app = s.app ∧ (recordFetch s).run = s.run ∧ (recordFetch s).log = s.log ∧
    (recordFetch s).trig = s.trig ∧ (recordFetch s).dram = s.dram ∧ (recordFetch s).win = s.win ∧
    (recordFetch s).ev = s.ev ∧ (recordFetch s).resetLow = s.resetLow ∧ (recordFetch s).pending = s.pending ∧
    (recordFetch s).walker.cur = s.walker.cur ∧ (recordFetch s).walker.pend = s.walker.pend ∧
    (recordFetch s).walker.stack = s.walker.stack ∧ (recordFetch s).mem.ready = s.mem.ready ∧
    (recordFetch s).mem.msize = s.mem.msize ∧ (recordFetch s).mem.initTicks = s.mem.initTicks ∧
    (recordFetch s).mem.zones = s.mem.zones ∧ (recordFetch s).mem.zonesel = s.mem.zonesel ∧
    (recordFetch s).mem.refint = s.mem.refint ∧ (recordFetch s).mem.refTimer = s.mem.refTimer ∧
    (recordFetch s).mem.owed = s.mem.owed ∧ (recordFetch s).mem.refmiss = s.mem.refmiss ∧
    (recordFetch s).mem.passover = s.mem.passover := by unfold recordFetch; (repeat' split) <;> simp

end Sys2Proof.Machine
end

