-- ==== Sys2Proof/Laws/Run.lean ====
section
/-! SUPPORT. The frames of run control, the applier, the trigger lines and the settings: which fields of the state each
operation leaves as they are. -/

namespace Sys2Proof.Machine

set_option Elab.async false

/-! ## Run control -/

/-- What `applierStop` leaves as it is. -/
@[simp] theorem applierStop_frame (s : State) :
    (applierStop s).ports = s.ports ∧ (applierStop s).tsets = s.tsets ∧ (applierStop s).seg = s.seg ∧
    (applierStop s).walker = s.walker ∧ (applierStop s).queue = s.queue ∧ (applierStop s).run = s.run ∧
    (applierStop s).log = s.log ∧ (applierStop s).trig = s.trig ∧ (applierStop s).mem = s.mem ∧
    (applierStop s).dram = s.dram ∧ (applierStop s).win = s.win ∧ (applierStop s).ev = s.ev ∧
    (applierStop s).resetLow = s.resetLow ∧ (applierStop s).free = s.free ∧ (applierStop s).pending = s.pending ∧
    (applierStop s).app.passdone = s.app.passdone ∧ (applierStop s).app.vcount = s.app.vcount ∧
    (applierStop s).app.failcount = s.app.failcount ∧ (applierStop s).app.firstfail = s.app.firstfail := by
  simp [applierStop]

/-- What `requestsClear` leaves as it is. -/
@[simp] theorem requestsClear_frame (s : State) :
    (requestsClear s).ports = s.ports ∧ (requestsClear s).tsets = s.tsets ∧ (requestsClear s).seg = s.seg ∧
    (requestsClear s).walker = s.walker ∧ (requestsClear s).queue = s.queue ∧ (requestsClear s).app = s.app ∧
    (requestsClear s).log = s.log ∧ (requestsClear s).trig = s.trig ∧ (requestsClear s).mem = s.mem ∧
    (requestsClear s).dram = s.dram ∧ (requestsClear s).win = s.win ∧ (requestsClear s).ev = s.ev ∧
    (requestsClear s).resetLow = s.resetLow ∧ (requestsClear s).free = s.free ∧
    (requestsClear s).pending = s.pending ∧ (requestsClear s).run.state = s.run.state ∧
    (requestsClear s).run.cause = s.run.cause ∧ (requestsClear s).run.fault = s.run.fault ∧
    (requestsClear s).run.bp = s.run.bp ∧ (requestsClear s).run.armcfg = s.run.armcfg ∧
    (requestsClear s).run.starveto = s.run.starveto ∧ (requestsClear s).run.failPause = s.run.failPause ∧
    (requestsClear s).run.faillimit = s.run.faillimit ∧ (requestsClear s).run.drainAborted = s.run.drainAborted := by
  simp [requestsClear]

/-- What `enterStopping` leaves as it is. -/
@[simp] theorem enterStopping_frame (cause : Cause) (code : FaultCode) (pos : Tags) (s : State) :
    (enterStopping cause code pos s).tsets = s.tsets ∧ (enterStopping cause code pos s).seg = s.seg ∧
    (enterStopping cause code pos s).dram = s.dram ∧ (enterStopping cause code pos s).win = s.win ∧
    (enterStopping cause code pos s).resetLow = s.resetLow ∧ (enterStopping cause code pos s).free = s.free ∧
    (enterStopping cause code pos s).pending = s.pending ∧
    (enterStopping cause code pos s).ports.cfg = s.ports.cfg ∧
    (enterStopping cause code pos s).app.passdone = s.app.passdone ∧
    (enterStopping cause code pos s).app.vcount = s.app.vcount ∧
    (enterStopping cause code pos s).app.failcount = s.app.failcount ∧
    (enterStopping cause code pos s).app.firstfail = s.app.firstfail ∧
    (enterStopping cause code pos s).run.bp = s.run.bp ∧
    (enterStopping cause code pos s).run.armcfg = s.run.armcfg ∧
    (enterStopping cause code pos s).run.starveto = s.run.starveto ∧
    (enterStopping cause code pos s).run.failPause = s.run.failPause ∧
    (enterStopping cause code pos s).run.faillimit = s.run.faillimit ∧
    (enterStopping cause code pos s).run.drainAborted = s.run.drainAborted ∧
    (enterStopping cause code pos s).log.base = s.log.base ∧
    (enterStopping cause code pos s).log.size = s.log.size ∧
    (enterStopping cause code pos s).log.level = s.log.level ∧
    (enterStopping cause code pos s).log.wp = s.log.wp ∧ (enterStopping cause code pos s).log.rp = s.log.rp ∧
    (enterStopping cause code pos s).trig.lines = s.trig.lines ∧
    (enterStopping cause code pos s).trig.latch = s.trig.latch ∧
    (enterStopping cause code pos s).mem.ready = s.mem.ready ∧
    (enterStopping cause code pos s).mem.msize = s.mem.msize ∧
    (enterStopping cause code pos s).mem.initTicks = s.mem.initTicks ∧
    (enterStopping cause code pos s).mem.zones = s.mem.zones ∧
    (enterStopping cause code pos s).mem.zonesel = s.mem.zonesel ∧
    (enterStopping cause code pos s).mem.refint = s.mem.refint ∧
    (enterStopping cause code pos s).mem.refTimer = s.mem.refTimer ∧
    (enterStopping cause code pos s).mem.owed = s.mem.owed ∧
    (enterStopping cause code pos s).mem.refmiss = s.mem.refmiss ∧
    (enterStopping cause code pos s).mem.passover = s.mem.passover ∧
    (enterStopping cause code pos s).ev.enables = s.ev.enables ∧
    (enterStopping cause code pos s).ev.master = s.ev.master := by simp [enterStopping]

/-- What `stopOnFault` leaves as it is. -/
@[simp] theorem stopOnFault_frame (code : FaultCode) (pos : Tags) (s : State) :
    (stopOnFault code pos s).tsets = s.tsets ∧ (stopOnFault code pos s).seg = s.seg ∧
    (stopOnFault code pos s).dram = s.dram ∧ (stopOnFault code pos s).win = s.win ∧
    (stopOnFault code pos s).resetLow = s.resetLow ∧ (stopOnFault code pos s).free = s.free ∧
    (stopOnFault code pos s).pending = s.pending ∧ (stopOnFault code pos s).ports.cfg = s.ports.cfg ∧
    (stopOnFault code pos s).app.passdone = s.app.passdone ∧ (stopOnFault code pos s).app.vcount = s.app.vcount ∧
    (stopOnFault code pos s).app.failcount = s.app.failcount ∧
    (stopOnFault code pos s).app.firstfail = s.app.firstfail ∧ (stopOnFault code pos s).run.bp = s.run.bp ∧
    (stopOnFault code pos s).run.armcfg = s.run.armcfg ∧ (stopOnFault code pos s).run.starveto = s.run.starveto ∧
    (stopOnFault code pos s).run.failPause = s.run.failPause ∧
    (stopOnFault code pos s).run.faillimit = s.run.faillimit ∧
    (stopOnFault code pos s).run.drainAborted = s.run.drainAborted ∧
    (stopOnFault code pos s).log.base = s.log.base ∧ (stopOnFault code pos s).log.size = s.log.size ∧
    (stopOnFault code pos s).log.level = s.log.level ∧ (stopOnFault code pos s).log.wp = s.log.wp ∧
    (stopOnFault code pos s).log.rp = s.log.rp ∧ (stopOnFault code pos s).trig.lines = s.trig.lines ∧
    (stopOnFault code pos s).trig.latch = s.trig.latch ∧ (stopOnFault code pos s).mem.ready = s.mem.ready ∧
    (stopOnFault code pos s).mem.msize = s.mem.msize ∧ (stopOnFault code pos s).mem.initTicks = s.mem.initTicks ∧
    (stopOnFault code pos s).mem.zones = s.mem.zones ∧ (stopOnFault code pos s).mem.zonesel = s.mem.zonesel ∧
    (stopOnFault code pos s).mem.refint = s.mem.refint ∧ (stopOnFault code pos s).mem.refTimer = s.mem.refTimer ∧
    (stopOnFault code pos s).mem.owed = s.mem.owed ∧ (stopOnFault code pos s).mem.refmiss = s.mem.refmiss ∧
    (stopOnFault code pos s).mem.passover = s.mem.passover ∧ (stopOnFault code pos s).ev.enables = s.ev.enables ∧
    (stopOnFault code pos s).ev.master = s.ev.master := by simp [stopOnFault]

/-- What `stopRun` leaves as it is. -/
@[simp] theorem stopRun_frame (cause : Cause) (s : State) :
    (stopRun cause s).tsets = s.tsets ∧ (stopRun cause s).seg = s.seg ∧ (stopRun cause s).dram = s.dram ∧
    (stopRun cause s).win = s.win ∧ (stopRun cause s).resetLow = s.resetLow ∧ (stopRun cause s).free = s.free ∧
    (stopRun cause s).pending = s.pending ∧ (stopRun cause s).ports.cfg = s.ports.cfg ∧
    (stopRun cause s).app.passdone = s.app.passdone ∧ (stopRun cause s).app.vcount = s.app.vcount ∧
    (stopRun cause s).app.failcount = s.app.failcount ∧ (stopRun cause s).app.firstfail = s.app.firstfail ∧
    (stopRun cause s).run.bp = s.run.bp ∧ (stopRun cause s).run.armcfg = s.run.armcfg ∧
    (stopRun cause s).run.starveto = s.run.starveto ∧ (stopRun cause s).run.failPause = s.run.failPause ∧
    (stopRun cause s).run.faillimit = s.run.faillimit ∧ (stopRun cause s).run.drainAborted = s.run.drainAborted ∧
    (stopRun cause s).log.base = s.log.base ∧ (stopRun cause s).log.size = s.log.size ∧
    (stopRun cause s).log.level = s.log.level ∧ (stopRun cause s).log.wp = s.log.wp ∧
    (stopRun cause s).log.rp = s.log.rp ∧ (stopRun cause s).trig.lines = s.trig.lines ∧
    (stopRun cause s).trig.latch = s.trig.latch ∧ (stopRun cause s).mem.ready = s.mem.ready ∧
    (stopRun cause s).mem.msize = s.mem.msize ∧ (stopRun cause s).mem.initTicks = s.mem.initTicks ∧
    (stopRun cause s).mem.zones = s.mem.zones ∧ (stopRun cause s).mem.zonesel = s.mem.zonesel ∧
    (stopRun cause s).mem.refint = s.mem.refint ∧ (stopRun cause s).mem.refTimer = s.mem.refTimer ∧
    (stopRun cause s).mem.owed = s.mem.owed ∧ (stopRun cause s).mem.refmiss = s.mem.refmiss ∧
    (stopRun cause s).mem.passover = s.mem.passover ∧ (stopRun cause s).ev.enables = s.ev.enables ∧
    (stopRun cause s).ev.master = s.ev.master := by simp [stopRun]

/-- What `enterPaused` leaves as it is. -/
@[simp] theorem enterPaused_frame (cause : Cause) (suspended : Option Cause) (s : State) :
    (enterPaused cause suspended s).ports = s.ports ∧ (enterPaused cause suspended s).tsets = s.tsets ∧
    (enterPaused cause suspended s).seg = s.seg ∧ (enterPaused cause suspended s).walker = s.walker ∧
    (enterPaused cause suspended s).queue = s.queue ∧ (enterPaused cause suspended s).log = s.log ∧
    (enterPaused cause suspended s).trig = s.trig ∧ (enterPaused cause suspended s).mem = s.mem ∧
    (enterPaused cause suspended s).dram = s.dram ∧ (enterPaused cause suspended s).win = s.win ∧
    (enterPaused cause suspended s).resetLow = s.resetLow ∧ (enterPaused cause suspended s).free = s.free ∧
    (enterPaused cause suspended s).pending = s.pending ∧
    (enterPaused cause suspended s).app.period = s.app.period ∧
    (enterPaused cause suspended s).app.skipOnce = s.app.skipOnce ∧
    (enterPaused cause suspended s).app.wait = s.app.wait ∧
    (enterPaused cause suspended s).app.passdone = s.app.passdone ∧
    (enterPaused cause suspended s).app.vcount = s.app.vcount ∧
    (enterPaused cause suspended s).app.failcount = s.app.failcount ∧
    (enterPaused cause suspended s).app.firstfail = s.app.firstfail ∧
    (enterPaused cause suspended s).run.fault = s.run.fault ∧ (enterPaused cause suspended s).run.bp = s.run.bp ∧
    (enterPaused cause suspended s).run.armcfg = s.run.armcfg ∧
    (enterPaused cause suspended s).run.starveto = s.run.starveto ∧
    (enterPaused cause suspended s).run.failPause = s.run.failPause ∧
    (enterPaused cause suspended s).run.faillimit = s.run.faillimit ∧
    (enterPaused cause suspended s).run.stopReq = s.run.stopReq ∧
    (enterPaused cause suspended s).run.pauseFail = s.run.pauseFail ∧
    (enterPaused cause suspended s).run.pauseHost = s.run.pauseHost ∧
    (enterPaused cause suspended s).run.pauseStep = s.run.pauseStep ∧
    (enterPaused cause suspended s).run.stepReq = s.run.stepReq ∧
    (enterPaused cause suspended s).run.starve = s.run.starve ∧
    (enterPaused cause suspended s).run.drainAborted = s.run.drainAborted ∧
    (enterPaused cause suspended s).ev.enables = s.ev.enables ∧
    (enterPaused cause suspended s).ev.master = s.ev.master := by simp [enterPaused]

/-- What `enterWaiting` leaves as it is. -/
@[simp] theorem enterWaiting_frame (cause : Cause) (s : State) :
    (enterWaiting cause s).ports = s.ports ∧ (enterWaiting cause s).tsets = s.tsets ∧
    (enterWaiting cause s).seg = s.seg ∧ (enterWaiting cause s).walker = s.walker ∧
    (enterWaiting cause s).queue = s.queue ∧ (enterWaiting cause s).log = s.log ∧
    (enterWaiting cause s).trig = s.trig ∧ (enterWaiting cause s).mem = s.mem ∧
    (enterWaiting cause s).dram = s.dram ∧ (enterWaiting cause s).win = s.win ∧
    (enterWaiting cause s).resetLow = s.resetLow ∧ (enterWaiting cause s).free = s.free ∧
    (enterWaiting cause s).pending = s.pending ∧ (enterWaiting cause s).app.period = s.app.period ∧
    (enterWaiting cause s).app.skipOnce = s.app.skipOnce ∧ (enterWaiting cause s).app.wait = s.app.wait ∧
    (enterWaiting cause s).app.passdone = s.app.passdone ∧ (enterWaiting cause s).app.vcount = s.app.vcount ∧
    (enterWaiting cause s).app.failcount = s.app.failcount ∧
    (enterWaiting cause s).app.firstfail = s.app.firstfail ∧ (enterWaiting cause s).run.fault = s.run.fault ∧
    (enterWaiting cause s).run.bp = s.run.bp ∧ (enterWaiting cause s).run.armcfg = s.run.armcfg ∧
    (enterWaiting cause s).run.starveto = s.run.starveto ∧
    (enterWaiting cause s).run.failPause = s.run.failPause ∧
    (enterWaiting cause s).run.faillimit = s.run.faillimit ∧ (enterWaiting cause s).run.stopReq = s.run.stopReq ∧
    (enterWaiting cause s).run.pauseFail = s.run.pauseFail ∧
    (enterWaiting cause s).run.pauseHost = s.run.pauseHost ∧
    (enterWaiting cause s).run.pauseStep = s.run.pauseStep ∧ (enterWaiting cause s).run.stepReq = s.run.stepReq ∧
    (enterWaiting cause s).run.starve = s.run.starve ∧
    (enterWaiting cause s).run.drainAborted = s.run.drainAborted ∧
    (enterWaiting cause s).ev.enables = s.ev.enables ∧ (enterWaiting cause s).ev.master = s.ev.master := by
  simp [enterWaiting]

/-- What `dropHead` leaves as it is. -/
@[simp] theorem dropHead_frame (rest : List Item) (s : State) :
    (dropHead rest s).ports = s.ports ∧ (dropHead rest s).tsets = s.tsets ∧ (dropHead rest s).seg = s.seg ∧
    (dropHead rest s).app = s.app ∧ (dropHead rest s).run = s.run ∧ (dropHead rest s).log = s.log ∧
    (dropHead rest s).trig = s.trig ∧ (dropHead rest s).mem = s.mem ∧ (dropHead rest s).dram = s.dram ∧
    (dropHead rest s).win = s.win ∧ (dropHead rest s).ev = s.ev ∧ (dropHead rest s).resetLow = s.resetLow ∧
    (dropHead rest s).free = s.free ∧ (dropHead rest s).pending = s.pending ∧
    (dropHead rest s).walker.cur = s.walker.cur ∧ (dropHead rest s).walker.pend = s.walker.pend ∧
    (dropHead rest s).walker.next = s.walker.next ∧ (dropHead rest s).walker.tags = s.walker.tags ∧
    (dropHead rest s).walker.fetchAddr = s.walker.fetchAddr ∧ (dropHead rest s).walker.stack = s.walker.stack := by
  simp [dropHead]

/-- What `beginPeriod` leaves as it is. -/
@[simp] theorem beginPeriod_frame (v : DecodedVector) (t : Tags) (eop : Bool) (s : State) :
    (beginPeriod v t eop s).ports = s.ports ∧ (beginPeriod v t eop s).tsets = s.tsets ∧
    (beginPeriod v t eop s).seg = s.seg ∧ (beginPeriod v t eop s).walker = s.walker ∧
    (beginPeriod v t eop s).queue = s.queue ∧ (beginPeriod v t eop s).log = s.log ∧
    (beginPeriod v t eop s).mem = s.mem ∧ (beginPeriod v t eop s).dram = s.dram ∧
    (beginPeriod v t eop s).win = s.win ∧ (beginPeriod v t eop s).ev = s.ev ∧
    (beginPeriod v t eop s).resetLow = s.resetLow ∧ (beginPeriod v t eop s).free = s.free ∧
    (beginPeriod v t eop s).pending = s.pending ∧ (beginPeriod v t eop s).app.wait = s.app.wait ∧
    (beginPeriod v t eop s).app.passdone = s.app.passdone ∧
    (beginPeriod v t eop s).app.failcount = s.app.failcount ∧
    (beginPeriod v t eop s).app.firstfail = s.app.firstfail ∧ (beginPeriod v t eop s).run.fault = s.run.fault ∧
    (beginPeriod v t eop s).run.bp = s.run.bp ∧ (beginPeriod v t eop s).run.armcfg = s.run.armcfg ∧
    (beginPeriod v t eop s).run.starveto = s.run.starveto ∧
    (beginPeriod v t eop s).run.failPause = s.run.failPause ∧
    (beginPeriod v t eop s).run.faillimit = s.run.faillimit ∧
    (beginPeriod v t eop s).run.stopReq = s.run.stopReq ∧
    (beginPeriod v t eop s).run.pauseFail = s.run.pauseFail ∧
    (beginPeriod v t eop s).run.pauseHost = s.run.pauseHost ∧ (beginPeriod v t eop s).run.starve = s.run.starve ∧
    (beginPeriod v t eop s).run.drainAborted = s.run.drainAborted ∧
    (beginPeriod v t eop s).trig.lines = s.trig.lines ∧ (beginPeriod v t eop s).trig.latch = s.trig.latch := by
  simp [beginPeriod]

/-- What `breakBefore` leaves as it is. -/
@[simp] theorem breakBefore_frame (cause : Cause) (s : State) :
    (breakBefore cause s).ports = s.ports ∧ (breakBefore cause s).tsets = s.tsets ∧
    (breakBefore cause s).seg = s.seg ∧ (breakBefore cause s).walker = s.walker ∧
    (breakBefore cause s).queue = s.queue ∧ (breakBefore cause s).log = s.log ∧
    (breakBefore cause s).trig = s.trig ∧ (breakBefore cause s).mem = s.mem ∧
    (breakBefore cause s).dram = s.dram ∧ (breakBefore cause s).win = s.win ∧
    (breakBefore cause s).resetLow = s.resetLow ∧ (breakBefore cause s).free = s.free ∧
    (breakBefore cause s).pending = s.pending ∧ (breakBefore cause s).app.period = s.app.period ∧
    (breakBefore cause s).app.wait = s.app.wait ∧ (breakBefore cause s).app.passdone = s.app.passdone ∧
    (breakBefore cause s).app.vcount = s.app.vcount ∧ (breakBefore cause s).app.failcount = s.app.failcount ∧
    (breakBefore cause s).app.firstfail = s.app.firstfail ∧ (breakBefore cause s).run.fault = s.run.fault ∧
    (breakBefore cause s).run.bp = s.run.bp ∧ (breakBefore cause s).run.armcfg = s.run.armcfg ∧
    (breakBefore cause s).run.starveto = s.run.starveto ∧ (breakBefore cause s).run.failPause = s.run.failPause ∧
    (breakBefore cause s).run.faillimit = s.run.faillimit ∧ (breakBefore cause s).run.stopReq = s.run.stopReq ∧
    (breakBefore cause s).run.pauseFail = s.run.pauseFail ∧
    (breakBefore cause s).run.pauseHost = s.run.pauseHost ∧
    (breakBefore cause s).run.pauseStep = s.run.pauseStep ∧ (breakBefore cause s).run.starve = s.run.starve ∧
    (breakBefore cause s).run.drainAborted = s.run.drainAborted ∧
    (breakBefore cause s).ev.enables = s.ev.enables ∧ (breakBefore cause s).ev.master = s.ev.master := by
  simp [breakBefore]

/-- What `takeVector` leaves as it is. -/
@[simp] theorem takeVector_frame (v : DecodedVector) (t : Tags) (eop : Bool) (rest : List Item) (s : State) :
    (takeVector v t eop rest s).ports = s.ports ∧ (takeVector v t eop rest s).tsets = s.tsets ∧
    (takeVector v t eop rest s).seg = s.seg ∧ (takeVector v t eop rest s).log = s.log ∧
    (takeVector v t eop rest s).mem = s.mem ∧ (takeVector v t eop rest s).dram = s.dram ∧
    (takeVector v t eop rest s).win = s.win ∧ (takeVector v t eop rest s).resetLow = s.resetLow ∧
    (takeVector v t eop rest s).free = s.free ∧ (takeVector v t eop rest s).pending = s.pending ∧
    (takeVector v t eop rest s).walker.cur = s.walker.cur ∧
    (takeVector v t eop rest s).walker.pend = s.walker.pend ∧
    (takeVector v t eop rest s).walker.next = s.walker.next ∧
    (takeVector v t eop rest s).walker.tags = s.walker.tags ∧
    (takeVector v t eop rest s).walker.fetchAddr = s.walker.fetchAddr ∧
    (takeVector v t eop rest s).walker.stack = s.walker.stack ∧
    (takeVector v t eop rest s).app.wait = s.app.wait ∧
    (takeVector v t eop rest s).app.passdone = s.app.passdone ∧
    (takeVector v t eop rest s).app.failcount = s.app.failcount ∧
    (takeVector v t eop rest s).app.firstfail = s.app.firstfail ∧
    (takeVector v t eop rest s).run.fault = s.run.fault ∧ (takeVector v t eop rest s).run.bp = s.run.bp ∧
    (takeVector v t eop rest s).run.armcfg = s.run.armcfg ∧
    (takeVector v t eop rest s).run.starveto = s.run.starveto ∧
    (takeVector v t eop rest s).run.failPause = s.run.failPause ∧
    (takeVector v t eop rest s).run.faillimit = s.run.faillimit ∧
    (takeVector v t eop rest s).run.stopReq = s.run.stopReq ∧
    (takeVector v t eop rest s).run.pauseFail = s.run.pauseFail ∧
    (takeVector v t eop rest s).run.pauseHost = s.run.pauseHost ∧
    (takeVector v t eop rest s).run.starve = s.run.starve ∧
    (takeVector v t eop rest s).run.drainAborted = s.run.drainAborted ∧
    (takeVector v t eop rest s).trig.lines = s.trig.lines ∧
    (takeVector v t eop rest s).trig.latch = s.trig.latch ∧
    (takeVector v t eop rest s).ev.enables = s.ev.enables ∧ (takeVector v t eop rest s).ev.master = s.ev.master := by
  unfold takeVector; split <;> simp

/-- What `takeWait` leaves as it is. -/
@[simp] theorem takeWait_frame (w : WaitItem) (t : Tags) (rest : List Item) (s : State) :
    (takeWait w t rest s).ports = s.ports ∧ (takeWait w t rest s).tsets = s.tsets ∧
    (takeWait w t rest s).seg = s.seg ∧ (takeWait w t rest s).log = s.log ∧ (takeWait w t rest s).trig = s.trig ∧
    (takeWait w t rest s).mem = s.mem ∧ (takeWait w t rest s).dram = s.dram ∧ (takeWait w t rest s).win = s.win ∧
    (takeWait w t rest s).resetLow = s.resetLow ∧ (takeWait w t rest s).free = s.free ∧
    (takeWait w t rest s).pending = s.pending ∧ (takeWait w t rest s).walker.cur = s.walker.cur ∧
    (takeWait w t rest s).walker.pend = s.walker.pend ∧ (takeWait w t rest s).walker.next = s.walker.next ∧
    (takeWait w t rest s).walker.tags = s.walker.tags ∧
    (takeWait w t rest s).walker.fetchAddr = s.walker.fetchAddr ∧
    (takeWait w t rest s).walker.stack = s.walker.stack ∧ (takeWait w t rest s).app.period = s.app.period ∧
    (takeWait w t rest s).app.skipOnce = s.app.skipOnce ∧ (takeWait w t rest s).app.passdone = s.app.passdone ∧
    (takeWait w t rest s).app.vcount = s.app.vcount ∧ (takeWait w t rest s).app.failcount = s.app.failcount ∧
    (takeWait w t rest s).app.firstfail = s.app.firstfail ∧ (takeWait w t rest s).run.fault = s.run.fault ∧
    (takeWait w t rest s).run.bp = s.run.bp ∧ (takeWait w t rest s).run.armcfg = s.run.armcfg ∧
    (takeWait w t rest s).run.starveto = s.run.starveto ∧ (takeWait w t rest s).run.failPause = s.run.failPause ∧
    (takeWait w t rest s).run.faillimit = s.run.faillimit ∧ (takeWait w t rest s).run.stopReq = s.run.stopReq ∧
    (takeWait w t rest s).run.pauseFail = s.run.pauseFail ∧
    (takeWait w t rest s).run.pauseHost = s.run.pauseHost ∧
    (takeWait w t rest s).run.pauseStep = s.run.pauseStep ∧ (takeWait w t rest s).run.stepReq = s.run.stepReq ∧
    (takeWait w t rest s).run.starve = s.run.starve ∧
    (takeWait w t rest s).run.drainAborted = s.run.drainAborted ∧
    (takeWait w t rest s).ev.enables = s.ev.enables ∧ (takeWait w t rest s).ev.master = s.ev.master := by
  simp [takeWait]

/-- What `takeEmpty` leaves as it is. -/
@[simp] theorem takeEmpty_frame (s : State) :
    (takeEmpty s).tsets = s.tsets ∧ (takeEmpty s).seg = s.seg ∧ (takeEmpty s).dram = s.dram ∧
    (takeEmpty s).win = s.win ∧ (takeEmpty s).resetLow = s.resetLow ∧ (takeEmpty s).free = s.free ∧
    (takeEmpty s).pending = s.pending ∧ (takeEmpty s).ports.cfg = s.ports.cfg ∧
    (takeEmpty s).app.passdone = s.app.passdone ∧ (takeEmpty s).app.vcount = s.app.vcount ∧
    (takeEmpty s).app.failcount = s.app.failcount ∧ (takeEmpty s).app.firstfail = s.app.firstfail ∧
    (takeEmpty s).run.bp = s.run.bp ∧ (takeEmpty s).run.armcfg = s.run.armcfg ∧
    (takeEmpty s).run.starveto = s.run.starveto ∧ (takeEmpty s).run.failPause = s.run.failPause ∧
    (takeEmpty s).run.faillimit = s.run.faillimit ∧ (takeEmpty s).run.drainAborted = s.run.drainAborted ∧
    (takeEmpty s).log.base = s.log.base ∧ (takeEmpty s).log.size = s.log.size ∧
    (takeEmpty s).log.level = s.log.level ∧ (takeEmpty s).log.wp = s.log.wp ∧ (takeEmpty s).log.rp = s.log.rp ∧
    (takeEmpty s).trig.lines = s.trig.lines ∧ (takeEmpty s).trig.latch = s.trig.latch ∧
    (takeEmpty s).mem.ready = s.mem.ready ∧ (takeEmpty s).mem.msize = s.mem.msize ∧
    (takeEmpty s).mem.initTicks = s.mem.initTicks ∧ (takeEmpty s).mem.zones = s.mem.zones ∧
    (takeEmpty s).mem.zonesel = s.mem.zonesel ∧ (takeEmpty s).mem.refint = s.mem.refint ∧
    (takeEmpty s).mem.refTimer = s.mem.refTimer ∧ (takeEmpty s).mem.owed = s.mem.owed ∧
    (takeEmpty s).mem.refmiss = s.mem.refmiss ∧ (takeEmpty s).mem.passover = s.mem.passover ∧
    (takeEmpty s).ev.enables = s.ev.enables ∧ (takeEmpty s).ev.master = s.ev.master := by
  unfold takeEmpty; split <;> simp

/-- What `taking` leaves as it is. -/
@[simp] theorem taking_frame (s : State) :
    (taking s).tsets = s.tsets ∧ (taking s).seg = s.seg ∧ (taking s).dram = s.dram ∧ (taking s).win = s.win ∧
    (taking s).resetLow = s.resetLow ∧ (taking s).free = s.free ∧ (taking s).pending = s.pending ∧
    (taking s).ports.cfg = s.ports.cfg ∧ (taking s).app.passdone = s.app.passdone ∧
    (taking s).app.failcount = s.app.failcount ∧ (taking s).app.firstfail = s.app.firstfail ∧
    (taking s).run.bp = s.run.bp ∧ (taking s).run.armcfg = s.run.armcfg ∧
    (taking s).run.starveto = s.run.starveto ∧ (taking s).run.failPause = s.run.failPause ∧
    (taking s).run.faillimit = s.run.faillimit ∧ (taking s).run.drainAborted = s.run.drainAborted ∧
    (taking s).log.base = s.log.base ∧ (taking s).log.size = s.log.size ∧ (taking s).log.level = s.log.level ∧
    (taking s).log.wp = s.log.wp ∧ (taking s).log.rp = s.log.rp ∧ (taking s).trig.lines = s.trig.lines ∧
    (taking s).trig.latch = s.trig.latch ∧ (taking s).mem.ready = s.mem.ready ∧
    (taking s).mem.msize = s.mem.msize ∧ (taking s).mem.initTicks = s.mem.initTicks ∧
    (taking s).mem.zones = s.mem.zones ∧ (taking s).mem.zonesel = s.mem.zonesel ∧
    (taking s).mem.refint = s.mem.refint ∧ (taking s).mem.refTimer = s.mem.refTimer ∧
    (taking s).mem.owed = s.mem.owed ∧ (taking s).mem.refmiss = s.mem.refmiss ∧
    (taking s).mem.passover = s.mem.passover ∧ (taking s).ev.enables = s.ev.enables ∧
    (taking s).ev.master = s.ev.master := by unfold taking; split <;> simp

/-- What `enterPriming` leaves as it is. -/
@[simp] theorem enterPriming_frame (s : State) :
    (enterPriming s).tsets = s.tsets ∧ (enterPriming s).seg = s.seg ∧ (enterPriming s).dram = s.dram ∧
    (enterPriming s).win = s.win ∧ (enterPriming s).resetLow = s.resetLow ∧ (enterPriming s).free = s.free ∧
    (enterPriming s).pending = s.pending ∧ (enterPriming s).ports.cfg = s.ports.cfg ∧
    (enterPriming s).app.passdone = s.app.passdone ∧ (enterPriming s).app.failcount = s.app.failcount ∧
    (enterPriming s).app.firstfail = s.app.firstfail ∧ (enterPriming s).run.bp = s.run.bp ∧
    (enterPriming s).run.armcfg = s.run.armcfg ∧ (enterPriming s).run.starveto = s.run.starveto ∧
    (enterPriming s).run.failPause = s.run.failPause ∧ (enterPriming s).run.faillimit = s.run.faillimit ∧
    (enterPriming s).run.drainAborted = s.run.drainAborted ∧ (enterPriming s).log.base = s.log.base ∧
    (enterPriming s).log.size = s.log.size ∧ (enterPriming s).log.level = s.log.level ∧
    (enterPriming s).log.wp = s.log.wp ∧ (enterPriming s).log.rp = s.log.rp ∧
    (enterPriming s).trig.lines = s.trig.lines ∧ (enterPriming s).trig.latch = s.trig.latch ∧
    (enterPriming s).mem.ready = s.mem.ready ∧ (enterPriming s).mem.msize = s.mem.msize ∧
    (enterPriming s).mem.initTicks = s.mem.initTicks ∧ (enterPriming s).mem.zones = s.mem.zones ∧
    (enterPriming s).mem.zonesel = s.mem.zonesel ∧ (enterPriming s).mem.refint = s.mem.refint ∧
    (enterPriming s).mem.refTimer = s.mem.refTimer ∧ (enterPriming s).mem.owed = s.mem.owed ∧
    (enterPriming s).mem.refmiss = s.mem.refmiss ∧ (enterPriming s).mem.passover = s.mem.passover ∧
    (enterPriming s).ev.enables = s.ev.enables ∧ (enterPriming s).ev.master = s.ev.master := by
  simp only [enterPriming]; (repeat' split) <;> simp

/-- What `satisfyWait` leaves as it is. -/
@[simp] theorem satisfyWait_frame (w : WaitProgress) (s : State) :
    (satisfyWait w s).tsets = s.tsets ∧ (satisfyWait w s).seg = s.seg ∧ (satisfyWait w s).dram = s.dram ∧
    (satisfyWait w s).win = s.win ∧ (satisfyWait w s).resetLow = s.resetLow ∧ (satisfyWait w s).free = s.free ∧
    (satisfyWait w s).pending = s.pending ∧ (satisfyWait w s).ports.cfg = s.ports.cfg ∧
    (satisfyWait w s).app.passdone = s.app.passdone ∧ (satisfyWait w s).app.failcount = s.app.failcount ∧
    (satisfyWait w s).app.firstfail = s.app.firstfail ∧ (satisfyWait w s).run.bp = s.run.bp ∧
    (satisfyWait w s).run.armcfg = s.run.armcfg ∧ (satisfyWait w s).run.starveto = s.run.starveto ∧
    (satisfyWait w s).run.failPause = s.run.failPause ∧ (satisfyWait w s).run.faillimit = s.run.faillimit ∧
    (satisfyWait w s).run.drainAborted = s.run.drainAborted ∧ (satisfyWait w s).log.base = s.log.base ∧
    (satisfyWait w s).log.size = s.log.size ∧ (satisfyWait w s).log.level = s.log.level ∧
    (satisfyWait w s).log.wp = s.log.wp ∧ (satisfyWait w s).log.rp = s.log.rp ∧
    (satisfyWait w s).trig.lines = s.trig.lines ∧ (satisfyWait w s).trig.latch = s.trig.latch ∧
    (satisfyWait w s).mem.ready = s.mem.ready ∧ (satisfyWait w s).mem.msize = s.mem.msize ∧
    (satisfyWait w s).mem.initTicks = s.mem.initTicks ∧ (satisfyWait w s).mem.zones = s.mem.zones ∧
    (satisfyWait w s).mem.zonesel = s.mem.zonesel ∧ (satisfyWait w s).mem.refint = s.mem.refint ∧
    (satisfyWait w s).mem.refTimer = s.mem.refTimer ∧ (satisfyWait w s).mem.owed = s.mem.owed ∧
    (satisfyWait w s).mem.refmiss = s.mem.refmiss ∧ (satisfyWait w s).mem.passover = s.mem.passover ∧
    (satisfyWait w s).ev.enables = s.ev.enables ∧ (satisfyWait w s).ev.master = s.ev.master := by
  simp only [satisfyWait]; (repeat' split) <;> simp

/-- What `timeoutWait` leaves as it is. -/
@[simp] theorem timeoutWait_frame (w : WaitProgress) (s : State) :
    (timeoutWait w s).tsets = s.tsets ∧ (timeoutWait w s).seg = s.seg ∧ (timeoutWait w s).dram = s.dram ∧
    (timeoutWait w s).win = s.win ∧ (timeoutWait w s).resetLow = s.resetLow ∧ (timeoutWait w s).free = s.free ∧
    (timeoutWait w s).pending = s.pending ∧ (timeoutWait w s).ports.cfg = s.ports.cfg ∧
    (timeoutWait w s).app.passdone = s.app.passdone ∧ (timeoutWait w s).app.failcount = s.app.failcount ∧
    (timeoutWait w s).app.firstfail = s.app.firstfail ∧ (timeoutWait w s).run.bp = s.run.bp ∧
    (timeoutWait w s).run.armcfg = s.run.armcfg ∧ (timeoutWait w s).run.starveto = s.run.starveto ∧
    (timeoutWait w s).run.failPause = s.run.failPause ∧ (timeoutWait w s).run.faillimit = s.run.faillimit ∧
    (timeoutWait w s).run.drainAborted = s.run.drainAborted ∧ (timeoutWait w s).log.base = s.log.base ∧
    (timeoutWait w s).log.size = s.log.size ∧ (timeoutWait w s).log.level = s.log.level ∧
    (timeoutWait w s).log.wp = s.log.wp ∧ (timeoutWait w s).log.rp = s.log.rp ∧
    (timeoutWait w s).trig.lines = s.trig.lines ∧ (timeoutWait w s).trig.latch = s.trig.latch ∧
    (timeoutWait w s).mem.ready = s.mem.ready ∧ (timeoutWait w s).mem.msize = s.mem.msize ∧
    (timeoutWait w s).mem.initTicks = s.mem.initTicks ∧ (timeoutWait w s).mem.zones = s.mem.zones ∧
    (timeoutWait w s).mem.zonesel = s.mem.zonesel ∧ (timeoutWait w s).mem.refint = s.mem.refint ∧
    (timeoutWait w s).mem.refTimer = s.mem.refTimer ∧ (timeoutWait w s).mem.owed = s.mem.owed ∧
    (timeoutWait w s).mem.refmiss = s.mem.refmiss ∧ (timeoutWait w s).mem.passover = s.mem.passover ∧
    (timeoutWait w s).ev.enables = s.ev.enables ∧ (timeoutWait w s).ev.master = s.ev.master := by
  unfold timeoutWait; split <;> simp

/-- What `resolveNotReady` leaves as it is. -/
@[simp] theorem resolveNotReady_frame (s : State) :
    (resolveNotReady s).tsets = s.tsets ∧ (resolveNotReady s).seg = s.seg ∧ (resolveNotReady s).dram = s.dram ∧
    (resolveNotReady s).win = s.win ∧ (resolveNotReady s).resetLow = s.resetLow ∧
    (resolveNotReady s).free = s.free ∧ (resolveNotReady s).pending = s.pending ∧
    (resolveNotReady s).ports.cfg = s.ports.cfg ∧ (resolveNotReady s).app.passdone = s.app.passdone ∧
    (resolveNotReady s).app.failcount = s.app.failcount ∧ (resolveNotReady s).app.firstfail = s.app.firstfail ∧
    (resolveNotReady s).run.bp = s.run.bp ∧ (resolveNotReady s).run.armcfg = s.run.armcfg ∧
    (resolveNotReady s).run.starveto = s.run.starveto ∧ (resolveNotReady s).run.failPause = s.run.failPause ∧
    (resolveNotReady s).run.faillimit = s.run.faillimit ∧
    (resolveNotReady s).run.drainAborted = s.run.drainAborted ∧ (resolveNotReady s).log.base = s.log.base ∧
    (resolveNotReady s).log.size = s.log.size ∧ (resolveNotReady s).log.level = s.log.level ∧
    (resolveNotReady s).log.wp = s.log.wp ∧ (resolveNotReady s).log.rp = s.log.rp ∧
    (resolveNotReady s).trig.lines = s.trig.lines ∧ (resolveNotReady s).trig.latch = s.trig.latch ∧
    (resolveNotReady s).mem.ready = s.mem.ready ∧ (resolveNotReady s).mem.msize = s.mem.msize ∧
    (resolveNotReady s).mem.initTicks = s.mem.initTicks ∧ (resolveNotReady s).mem.zones = s.mem.zones ∧
    (resolveNotReady s).mem.zonesel = s.mem.zonesel ∧ (resolveNotReady s).mem.refint = s.mem.refint ∧
    (resolveNotReady s).mem.refTimer = s.mem.refTimer ∧ (resolveNotReady s).mem.owed = s.mem.owed ∧
    (resolveNotReady s).mem.refmiss = s.mem.refmiss ∧ (resolveNotReady s).mem.passover = s.mem.passover ∧
    (resolveNotReady s).ev.enables = s.ev.enables ∧ (resolveNotReady s).ev.master = s.ev.master := by
  simp only [resolveNotReady]; (repeat' split) <;> simp

/-- What `readyPending` leaves as it is. -/
@[simp] theorem readyPending_frame (n : SegIdx) (s : State) :
    (readyPending n s).tsets = s.tsets ∧ (readyPending n s).seg = s.seg ∧ (readyPending n s).dram = s.dram ∧
    (readyPending n s).win = s.win ∧ (readyPending n s).resetLow = s.resetLow ∧
    (readyPending n s).free = s.free ∧ (readyPending n s).pending = s.pending ∧
    (readyPending n s).ports.cfg = s.ports.cfg ∧ (readyPending n s).app.passdone = s.app.passdone ∧
    (readyPending n s).app.failcount = s.app.failcount ∧ (readyPending n s).app.firstfail = s.app.firstfail ∧
    (readyPending n s).run.bp = s.run.bp ∧ (readyPending n s).run.armcfg = s.run.armcfg ∧
    (readyPending n s).run.starveto = s.run.starveto ∧ (readyPending n s).run.failPause = s.run.failPause ∧
    (readyPending n s).run.faillimit = s.run.faillimit ∧
    (readyPending n s).run.drainAborted = s.run.drainAborted ∧ (readyPending n s).log.base = s.log.base ∧
    (readyPending n s).log.size = s.log.size ∧ (readyPending n s).log.level = s.log.level ∧
    (readyPending n s).log.wp = s.log.wp ∧ (readyPending n s).log.rp = s.log.rp ∧
    (readyPending n s).trig.lines = s.trig.lines ∧ (readyPending n s).trig.latch = s.trig.latch ∧
    (readyPending n s).mem.ready = s.mem.ready ∧ (readyPending n s).mem.msize = s.mem.msize ∧
    (readyPending n s).mem.initTicks = s.mem.initTicks ∧ (readyPending n s).mem.zones = s.mem.zones ∧
    (readyPending n s).mem.zonesel = s.mem.zonesel ∧ (readyPending n s).mem.refint = s.mem.refint ∧
    (readyPending n s).mem.refTimer = s.mem.refTimer ∧ (readyPending n s).mem.owed = s.mem.owed ∧
    (readyPending n s).mem.refmiss = s.mem.refmiss ∧ (readyPending n s).mem.passover = s.mem.passover ∧
    (readyPending n s).ev.enables = s.ev.enables ∧ (readyPending n s).ev.master = s.ev.master := by
  unfold readyPending; split <;> simp

/-- What `clearRun` leaves as it is. -/
@[simp] theorem clearRun_frame (i : SegIdx) (s : State) :
    (clearRun i s).ports = s.ports ∧ (clearRun i s).tsets = s.tsets ∧ (clearRun i s).trig = s.trig ∧
    (clearRun i s).mem = s.mem ∧ (clearRun i s).dram = s.dram ∧ (clearRun i s).win = s.win ∧
    (clearRun i s).ev = s.ev ∧ (clearRun i s).resetLow = s.resetLow ∧ (clearRun i s).free = s.free ∧
    (clearRun i s).pending = s.pending ∧ (clearRun i s).seg.entries = s.seg.entries ∧
    (clearRun i s).seg.stage = s.seg.stage ∧ (clearRun i s).seg.startseg = s.seg.startseg ∧
    (clearRun i s).app.stream = s.app.stream ∧ (clearRun i s).run.state = s.run.state ∧
    (clearRun i s).run.cause = s.run.cause ∧ (clearRun i s).run.bp = s.run.bp ∧
    (clearRun i s).run.armcfg = s.run.armcfg ∧ (clearRun i s).run.starveto = s.run.starveto ∧
    (clearRun i s).run.failPause = s.run.failPause ∧ (clearRun i s).run.faillimit = s.run.faillimit ∧
    (clearRun i s).log.base = s.log.base ∧ (clearRun i s).log.size = s.log.size ∧
    (clearRun i s).log.level = s.log.level ∧ (clearRun i s).log.wp = s.log.wp ∧ (clearRun i s).log.rp = s.log.rp := by
  simp [clearRun]


/-! ## Run commands -/

/-- What `startRun` leaves as it is. -/
@[simp] theorem startRun_frame (s : State) :
    (startRun s).ports = s.ports ∧ (startRun s).tsets = s.tsets ∧ (startRun s).mem = s.mem ∧
    (startRun s).dram = s.dram ∧ (startRun s).ev = s.ev ∧ (startRun s).resetLow = s.resetLow ∧
    (startRun s).free = s.free ∧ (startRun s).pending = s.pending ∧ (startRun s).seg.entries = s.seg.entries ∧
    (startRun s).seg.stage = s.seg.stage ∧ (startRun s).seg.startseg = s.seg.startseg ∧
    (startRun s).run.bp = s.run.bp ∧ (startRun s).run.armcfg = s.run.armcfg ∧
    (startRun s).run.starveto = s.run.starveto ∧ (startRun s).run.failPause = s.run.failPause ∧
    (startRun s).run.faillimit = s.run.faillimit ∧ (startRun s).log.base = s.log.base ∧
    (startRun s).log.size = s.log.size ∧ (startRun s).log.level = s.log.level ∧ (startRun s).log.wp = s.log.wp ∧
    (startRun s).log.rp = s.log.rp ∧ (startRun s).trig.lines = s.trig.lines ∧
    (startRun s).trig.latch = s.trig.latch ∧ (startRun s).win.cmd = s.win.cmd ∧
    (startRun s).win.cmdres = s.win.cmdres ∧ (startRun s).win.carg = s.win.carg ∧
    (startRun s).win.winerr = s.win.winerr ∧ (startRun s).win.captures = s.win.captures ∧
    (startRun s).win.holdings = s.win.holdings ∧ (startRun s).win.waddr = s.win.waddr ∧
    (startRun s).win.stride = s.win.stride ∧ (startRun s).win.ahead = s.win.ahead ∧
    (startRun s).win.fetch = s.win.fetch ∧ (startRun s).win.posted = s.win.posted ∧
    (startRun s).win.memop = s.win.memop ∧ (startRun s).win.mopLast = s.win.mopLast ∧
    (startRun s).win.mopCount = s.win.mopCount ∧ (startRun s).win.patch = s.win.patch ∧
    (startRun s).win.orphan = s.win.orphan ∧ (startRun s).win.access = s.win.access ∧
    (startRun s).win.busData = s.win.busData := by simp [startRun]

/-- What `armRun` leaves as it is. -/
@[simp] theorem armRun_frame (s : State) :
    (armRun s).ports = s.ports ∧ (armRun s).tsets = s.tsets ∧ (armRun s).trig = s.trig ∧ (armRun s).mem = s.mem ∧
    (armRun s).dram = s.dram ∧ (armRun s).ev = s.ev ∧ (armRun s).resetLow = s.resetLow ∧
    (armRun s).free = s.free ∧ (armRun s).pending = s.pending ∧ (armRun s).seg.entries = s.seg.entries ∧
    (armRun s).seg.stage = s.seg.stage ∧ (armRun s).seg.startseg = s.seg.startseg ∧
    (armRun s).run.bp = s.run.bp ∧ (armRun s).run.armcfg = s.run.armcfg ∧
    (armRun s).run.starveto = s.run.starveto ∧ (armRun s).run.failPause = s.run.failPause ∧
    (armRun s).run.faillimit = s.run.faillimit ∧ (armRun s).log.base = s.log.base ∧
    (armRun s).log.size = s.log.size ∧ (armRun s).log.level = s.log.level ∧ (armRun s).log.wp = s.log.wp ∧
    (armRun s).log.rp = s.log.rp ∧ (armRun s).win.cmd = s.win.cmd ∧ (armRun s).win.cmdres = s.win.cmdres ∧
    (armRun s).win.carg = s.win.carg ∧ (armRun s).win.winerr = s.win.winerr ∧
    (armRun s).win.captures = s.win.captures ∧ (armRun s).win.holdings = s.win.holdings ∧
    (armRun s).win.waddr = s.win.waddr ∧ (armRun s).win.stride = s.win.stride ∧
    (armRun s).win.ahead = s.win.ahead ∧ (armRun s).win.fetch = s.win.fetch ∧
    (armRun s).win.posted = s.win.posted ∧ (armRun s).win.memop = s.win.memop ∧
    (armRun s).win.mopLast = s.win.mopLast ∧ (armRun s).win.mopCount = s.win.mopCount ∧
    (armRun s).win.patch = s.win.patch ∧ (armRun s).win.orphan = s.win.orphan ∧
    (armRun s).win.access = s.win.access ∧ (armRun s).win.busData = s.win.busData := by simp [armRun]

/-- What `pauseRun` leaves as it is. -/
@[simp] theorem pauseRun_frame (s : State) :
    (pauseRun s).ports = s.ports ∧ (pauseRun s).tsets = s.tsets ∧ (pauseRun s).seg = s.seg ∧
    (pauseRun s).walker = s.walker ∧ (pauseRun s).queue = s.queue ∧ (pauseRun s).log = s.log ∧
    (pauseRun s).trig = s.trig ∧ (pauseRun s).mem = s.mem ∧ (pauseRun s).dram = s.dram ∧
    (pauseRun s).resetLow = s.resetLow ∧ (pauseRun s).free = s.free ∧ (pauseRun s).pending = s.pending ∧
    (pauseRun s).app.period = s.app.period ∧ (pauseRun s).app.skipOnce = s.app.skipOnce ∧
    (pauseRun s).app.wait = s.app.wait ∧ (pauseRun s).app.passdone = s.app.passdone ∧
    (pauseRun s).app.vcount = s.app.vcount ∧ (pauseRun s).app.failcount = s.app.failcount ∧
    (pauseRun s).app.firstfail = s.app.firstfail ∧ (pauseRun s).run.fault = s.run.fault ∧
    (pauseRun s).run.bp = s.run.bp ∧ (pauseRun s).run.armcfg = s.run.armcfg ∧
    (pauseRun s).run.starveto = s.run.starveto ∧ (pauseRun s).run.failPause = s.run.failPause ∧
    (pauseRun s).run.faillimit = s.run.faillimit ∧ (pauseRun s).run.stopReq = s.run.stopReq ∧
    (pauseRun s).run.pauseFail = s.run.pauseFail ∧ (pauseRun s).run.pauseStep = s.run.pauseStep ∧
    (pauseRun s).run.starve = s.run.starve ∧ (pauseRun s).run.drainAborted = s.run.drainAborted ∧
    (pauseRun s).win.cmd = s.win.cmd ∧ (pauseRun s).win.cmdres = s.win.cmdres ∧
    (pauseRun s).win.carg = s.win.carg ∧ (pauseRun s).win.winerr = s.win.winerr ∧
    (pauseRun s).win.captures = s.win.captures ∧ (pauseRun s).win.holdings = s.win.holdings ∧
    (pauseRun s).win.waddr = s.win.waddr ∧ (pauseRun s).win.stride = s.win.stride ∧
    (pauseRun s).win.ahead = s.win.ahead ∧ (pauseRun s).win.fetch = s.win.fetch ∧
    (pauseRun s).win.posted = s.win.posted ∧ (pauseRun s).win.memop = s.win.memop ∧
    (pauseRun s).win.mopLast = s.win.mopLast ∧ (pauseRun s).win.mopCount = s.win.mopCount ∧
    (pauseRun s).win.patch = s.win.patch ∧ (pauseRun s).win.orphan = s.win.orphan ∧
    (pauseRun s).win.access = s.win.access ∧ (pauseRun s).win.busData = s.win.busData ∧
    (pauseRun s).ev.enables = s.ev.enables ∧ (pauseRun s).ev.master = s.ev.master := by
  simp only [pauseRun]; (repeat' split) <;> simp

/-- What `restartWaitPeriod` leaves as it is. -/
@[simp] theorem restartWaitPeriod_frame (s : State) :
    (restartWaitPeriod s).ports = s.ports ∧ (restartWaitPeriod s).tsets = s.tsets ∧
    (restartWaitPeriod s).seg = s.seg ∧ (restartWaitPeriod s).walker = s.walker ∧
    (restartWaitPeriod s).queue = s.queue ∧ (restartWaitPeriod s).run = s.run ∧
    (restartWaitPeriod s).log = s.log ∧ (restartWaitPeriod s).trig = s.trig ∧ (restartWaitPeriod s).mem = s.mem ∧
    (restartWaitPeriod s).dram = s.dram ∧ (restartWaitPeriod s).win = s.win ∧ (restartWaitPeriod s).ev = s.ev ∧
    (restartWaitPeriod s).resetLow = s.resetLow ∧ (restartWaitPeriod s).free = s.free ∧
    (restartWaitPeriod s).pending = s.pending ∧ (restartWaitPeriod s).app.stream = s.app.stream ∧
    (restartWaitPeriod s).app.period = s.app.period ∧ (restartWaitPeriod s).app.skipOnce = s.app.skipOnce ∧
    (restartWaitPeriod s).app.passdone = s.app.passdone ∧ (restartWaitPeriod s).app.vcount = s.app.vcount ∧
    (restartWaitPeriod s).app.failcount = s.app.failcount ∧ (restartWaitPeriod s).app.firstfail = s.app.firstfail := by
  simp [restartWaitPeriod]

/-- What `resumeRun` leaves as it is. -/
@[simp] theorem resumeRun_frame (s : State) :
    (resumeRun s).tsets = s.tsets ∧ (resumeRun s).seg = s.seg ∧ (resumeRun s).dram = s.dram ∧
    (resumeRun s).win = s.win ∧ (resumeRun s).resetLow = s.resetLow ∧ (resumeRun s).free = s.free ∧
    (resumeRun s).pending = s.pending ∧ (resumeRun s).ports.cfg = s.ports.cfg ∧
    (resumeRun s).app.passdone = s.app.passdone ∧ (resumeRun s).app.failcount = s.app.failcount ∧
    (resumeRun s).app.firstfail = s.app.firstfail ∧ (resumeRun s).run.bp = s.run.bp ∧
    (resumeRun s).run.armcfg = s.run.armcfg ∧ (resumeRun s).run.starveto = s.run.starveto ∧
    (resumeRun s).run.failPause = s.run.failPause ∧ (resumeRun s).run.faillimit = s.run.faillimit ∧
    (resumeRun s).run.drainAborted = s.run.drainAborted ∧ (resumeRun s).log.base = s.log.base ∧
    (resumeRun s).log.size = s.log.size ∧ (resumeRun s).log.level = s.log.level ∧
    (resumeRun s).log.wp = s.log.wp ∧ (resumeRun s).log.rp = s.log.rp ∧ (resumeRun s).trig.lines = s.trig.lines ∧
    (resumeRun s).trig.latch = s.trig.latch ∧ (resumeRun s).mem.ready = s.mem.ready ∧
    (resumeRun s).mem.msize = s.mem.msize ∧ (resumeRun s).mem.initTicks = s.mem.initTicks ∧
    (resumeRun s).mem.zones = s.mem.zones ∧ (resumeRun s).mem.zonesel = s.mem.zonesel ∧
    (resumeRun s).mem.refint = s.mem.refint ∧ (resumeRun s).mem.refTimer = s.mem.refTimer ∧
    (resumeRun s).mem.owed = s.mem.owed ∧ (resumeRun s).mem.refmiss = s.mem.refmiss ∧
    (resumeRun s).mem.passover = s.mem.passover ∧ (resumeRun s).ev.enables = s.ev.enables ∧
    (resumeRun s).ev.master = s.ev.master := by unfold resumeRun; (repeat' split) <;> simp

/-- What `abortRun` leaves as it is. -/
@[simp] theorem abortRun_frame (s : State) :
    (abortRun s).tsets = s.tsets ∧ (abortRun s).seg = s.seg ∧ (abortRun s).dram = s.dram ∧
    (abortRun s).resetLow = s.resetLow ∧ (abortRun s).free = s.free ∧ (abortRun s).pending = s.pending ∧
    (abortRun s).ports.cfg = s.ports.cfg ∧ (abortRun s).app.passdone = s.app.passdone ∧
    (abortRun s).app.vcount = s.app.vcount ∧ (abortRun s).app.failcount = s.app.failcount ∧
    (abortRun s).app.firstfail = s.app.firstfail ∧ (abortRun s).run.bp = s.run.bp ∧
    (abortRun s).run.armcfg = s.run.armcfg ∧ (abortRun s).run.starveto = s.run.starveto ∧
    (abortRun s).run.failPause = s.run.failPause ∧ (abortRun s).run.faillimit = s.run.faillimit ∧
    (abortRun s).log.base = s.log.base ∧ (abortRun s).log.size = s.log.size ∧
    (abortRun s).log.level = s.log.level ∧ (abortRun s).log.wp = s.log.wp ∧ (abortRun s).log.rp = s.log.rp ∧
    (abortRun s).trig.lines = s.trig.lines ∧ (abortRun s).trig.latch = s.trig.latch ∧
    (abortRun s).mem.ready = s.mem.ready ∧ (abortRun s).mem.msize = s.mem.msize ∧
    (abortRun s).mem.initTicks = s.mem.initTicks ∧ (abortRun s).mem.zones = s.mem.zones ∧
    (abortRun s).mem.zonesel = s.mem.zonesel ∧ (abortRun s).mem.refint = s.mem.refint ∧
    (abortRun s).mem.refTimer = s.mem.refTimer ∧ (abortRun s).mem.owed = s.mem.owed ∧
    (abortRun s).mem.refmiss = s.mem.refmiss ∧ (abortRun s).mem.passover = s.mem.passover ∧
    (abortRun s).win.cmd = s.win.cmd ∧ (abortRun s).win.cmdres = s.win.cmdres ∧
    (abortRun s).win.carg = s.win.carg ∧ (abortRun s).win.winerr = s.win.winerr ∧
    (abortRun s).win.captures = s.win.captures ∧ (abortRun s).win.holdings = s.win.holdings ∧
    (abortRun s).win.waddr = s.win.waddr ∧ (abortRun s).win.stride = s.win.stride ∧
    (abortRun s).win.ahead = s.win.ahead ∧ (abortRun s).win.fetch = s.win.fetch ∧
    (abortRun s).win.posted = s.win.posted ∧ (abortRun s).win.memop = s.win.memop ∧
    (abortRun s).win.mopLast = s.win.mopLast ∧ (abortRun s).win.mopCount = s.win.mopCount ∧
    (abortRun s).win.patch = s.win.patch ∧ (abortRun s).win.orphan = s.win.orphan ∧
    (abortRun s).win.access = s.win.access ∧ (abortRun s).win.busData = s.win.busData ∧
    (abortRun s).ev.enables = s.ev.enables ∧ (abortRun s).ev.master = s.ev.master := by
  unfold abortRun; (repeat' split) <;> simp

/-- What `clearEnded` leaves as it is. -/
@[simp] theorem clearEnded_frame (s : State) :
    (clearEnded s).ports = s.ports ∧ (clearEnded s).tsets = s.tsets ∧ (clearEnded s).seg = s.seg ∧
    (clearEnded s).walker = s.walker ∧ (clearEnded s).queue = s.queue ∧ (clearEnded s).app = s.app ∧
    (clearEnded s).log = s.log ∧ (clearEnded s).trig = s.trig ∧ (clearEnded s).mem = s.mem ∧
    (clearEnded s).dram = s.dram ∧ (clearEnded s).resetLow = s.resetLow ∧ (clearEnded s).free = s.free ∧
    (clearEnded s).pending = s.pending ∧ (clearEnded s).run.suspended = s.run.suspended ∧
    (clearEnded s).run.fault = s.run.fault ∧ (clearEnded s).run.bp = s.run.bp ∧
    (clearEnded s).run.armcfg = s.run.armcfg ∧ (clearEnded s).run.starveto = s.run.starveto ∧
    (clearEnded s).run.failPause = s.run.failPause ∧ (clearEnded s).run.faillimit = s.run.faillimit ∧
    (clearEnded s).run.stopReq = s.run.stopReq ∧ (clearEnded s).run.pauseFail = s.run.pauseFail ∧
    (clearEnded s).run.pauseHost = s.run.pauseHost ∧ (clearEnded s).run.pauseStep = s.run.pauseStep ∧
    (clearEnded s).run.stepReq = s.run.stepReq ∧ (clearEnded s).run.starve = s.run.starve ∧
    (clearEnded s).run.drainAborted = s.run.drainAborted ∧ (clearEnded s).win.cmd = s.win.cmd ∧
    (clearEnded s).win.cmdres = s.win.cmdres ∧ (clearEnded s).win.carg = s.win.carg ∧
    (clearEnded s).win.winerr = s.win.winerr ∧ (clearEnded s).win.captures = s.win.captures ∧
    (clearEnded s).win.holdings = s.win.holdings ∧ (clearEnded s).win.waddr = s.win.waddr ∧
    (clearEnded s).win.stride = s.win.stride ∧ (clearEnded s).win.ahead = s.win.ahead ∧
    (clearEnded s).win.fetch = s.win.fetch ∧ (clearEnded s).win.posted = s.win.posted ∧
    (clearEnded s).win.memop = s.win.memop ∧ (clearEnded s).win.mopLast = s.win.mopLast ∧
    (clearEnded s).win.mopCount = s.win.mopCount ∧ (clearEnded s).win.patch = s.win.patch ∧
    (clearEnded s).win.orphan = s.win.orphan ∧ (clearEnded s).win.access = s.win.access ∧
    (clearEnded s).win.busData = s.win.busData ∧ (clearEnded s).ev.enables = s.ev.enables ∧
    (clearEnded s).ev.master = s.ev.master := by unfold clearEnded; split <;> simp


/-! ## Settings -/

/-- What `setPortCfg` leaves as it is. -/
@[simp] theorem setPortCfg_frame (p : Port) (cfg : PortCfg) (s : State) :
    (setPortCfg p cfg s).tsets = s.tsets ∧ (setPortCfg p cfg s).seg = s.seg ∧
    (setPortCfg p cfg s).walker = s.walker ∧ (setPortCfg p cfg s).queue = s.queue ∧
    (setPortCfg p cfg s).app = s.app ∧ (setPortCfg p cfg s).run = s.run ∧ (setPortCfg p cfg s).log = s.log ∧
    (setPortCfg p cfg s).trig = s.trig ∧ (setPortCfg p cfg s).mem = s.mem ∧ (setPortCfg p cfg s).dram = s.dram ∧
    (setPortCfg p cfg s).win = s.win ∧ (setPortCfg p cfg s).ev = s.ev ∧
    (setPortCfg p cfg s).resetLow = s.resetLow ∧ (setPortCfg p cfg s).free = s.free ∧
    (setPortCfg p cfg s).pending = s.pending := by simp [setPortCfg]


/-! ## Segment commands -/

/-- What `segWriteAt` leaves as it is. -/
@[simp] theorem segWriteAt_frame (n : SegIdx) (s : State) :
    (segWriteAt n s).tsets = s.tsets ∧ (segWriteAt n s).dram = s.dram ∧ (segWriteAt n s).win = s.win ∧
    (segWriteAt n s).resetLow = s.resetLow ∧ (segWriteAt n s).free = s.free ∧
    (segWriteAt n s).pending = s.pending ∧ (segWriteAt n s).ports.cfg = s.ports.cfg ∧
    (segWriteAt n s).seg.stage = s.seg.stage ∧ (segWriteAt n s).seg.lastrel = s.seg.lastrel ∧
    (segWriteAt n s).seg.startseg = s.seg.startseg ∧ (segWriteAt n s).app.passdone = s.app.passdone ∧
    (segWriteAt n s).app.failcount = s.app.failcount ∧ (segWriteAt n s).app.firstfail = s.app.firstfail ∧
    (segWriteAt n s).run.bp = s.run.bp ∧ (segWriteAt n s).run.armcfg = s.run.armcfg ∧
    (segWriteAt n s).run.starveto = s.run.starveto ∧ (segWriteAt n s).run.failPause = s.run.failPause ∧
    (segWriteAt n s).run.faillimit = s.run.faillimit ∧ (segWriteAt n s).run.drainAborted = s.run.drainAborted ∧
    (segWriteAt n s).log.base = s.log.base ∧ (segWriteAt n s).log.size = s.log.size ∧
    (segWriteAt n s).log.level = s.log.level ∧ (segWriteAt n s).log.wp = s.log.wp ∧
    (segWriteAt n s).log.rp = s.log.rp ∧ (segWriteAt n s).trig.lines = s.trig.lines ∧
    (segWriteAt n s).trig.latch = s.trig.latch ∧ (segWriteAt n s).mem.ready = s.mem.ready ∧
    (segWriteAt n s).mem.msize = s.mem.msize ∧ (segWriteAt n s).mem.initTicks = s.mem.initTicks ∧
    (segWriteAt n s).mem.zones = s.mem.zones ∧ (segWriteAt n s).mem.zonesel = s.mem.zonesel ∧
    (segWriteAt n s).mem.refint = s.mem.refint ∧ (segWriteAt n s).mem.refTimer = s.mem.refTimer ∧
    (segWriteAt n s).mem.owed = s.mem.owed ∧ (segWriteAt n s).mem.refmiss = s.mem.refmiss ∧
    (segWriteAt n s).mem.passover = s.mem.passover ∧ (segWriteAt n s).ev.enables = s.ev.enables ∧
    (segWriteAt n s).ev.master = s.ev.master := by simp only [segWriteAt]; (repeat' split) <;> simp

/-- What `setEntryReady` leaves as it is. -/
@[simp] theorem setEntryReady_frame (n : SegIdx) (b : Bool) (s : State) :
    (setEntryReady n b s).ports = s.ports ∧ (setEntryReady n b s).tsets = s.tsets ∧
    (setEntryReady n b s).walker = s.walker ∧ (setEntryReady n b s).queue = s.queue ∧
    (setEntryReady n b s).app = s.app ∧ (setEntryReady n b s).run = s.run ∧ (setEntryReady n b s).log = s.log ∧
    (setEntryReady n b s).trig = s.trig ∧ (setEntryReady n b s).mem = s.mem ∧
    (setEntryReady n b s).dram = s.dram ∧ (setEntryReady n b s).win = s.win ∧ (setEntryReady n b s).ev = s.ev ∧
    (setEntryReady n b s).resetLow = s.resetLow ∧ (setEntryReady n b s).free = s.free ∧
    (setEntryReady n b s).pending = s.pending ∧ (setEntryReady n b s).seg.stage = s.seg.stage ∧
    (setEntryReady n b s).seg.lastrel = s.seg.lastrel ∧ (setEntryReady n b s).seg.startseg = s.seg.startseg := by
  simp [setEntryReady]


/-! ## Trigger edges -/

/-- What `armEdge` leaves as it is. -/
@[simp] theorem armEdge_frame (s : State) :
    (armEdge s).tsets = s.tsets ∧ (armEdge s).seg = s.seg ∧ (armEdge s).dram = s.dram ∧ (armEdge s).win = s.win ∧
    (armEdge s).resetLow = s.resetLow ∧ (armEdge s).free = s.free ∧ (armEdge s).pending = s.pending ∧
    (armEdge s).ports.cfg = s.ports.cfg ∧ (armEdge s).app.passdone = s.app.passdone ∧
    (armEdge s).app.failcount = s.app.failcount ∧ (armEdge s).app.firstfail = s.app.firstfail ∧
    (armEdge s).run.bp = s.run.bp ∧ (armEdge s).run.armcfg = s.run.armcfg ∧
    (armEdge s).run.starveto = s.run.starveto ∧ (armEdge s).run.failPause = s.run.failPause ∧
    (armEdge s).run.faillimit = s.run.faillimit ∧ (armEdge s).run.drainAborted = s.run.drainAborted ∧
    (armEdge s).log.base = s.log.base ∧ (armEdge s).log.size = s.log.size ∧ (armEdge s).log.level = s.log.level ∧
    (armEdge s).log.wp = s.log.wp ∧ (armEdge s).log.rp = s.log.rp ∧ (armEdge s).trig.lines = s.trig.lines ∧
    (armEdge s).trig.latch = s.trig.latch ∧ (armEdge s).mem.ready = s.mem.ready ∧
    (armEdge s).mem.msize = s.mem.msize ∧ (armEdge s).mem.initTicks = s.mem.initTicks ∧
    (armEdge s).mem.zones = s.mem.zones ∧ (armEdge s).mem.zonesel = s.mem.zonesel ∧
    (armEdge s).mem.refint = s.mem.refint ∧ (armEdge s).mem.refTimer = s.mem.refTimer ∧
    (armEdge s).mem.owed = s.mem.owed ∧ (armEdge s).mem.refmiss = s.mem.refmiss ∧
    (armEdge s).mem.passover = s.mem.passover ∧ (armEdge s).ev.enables = s.ev.enables ∧
    (armEdge s).ev.master = s.ev.master := by unfold armEdge; split <;> simp

/-- What `waitEdge` leaves as it is. -/
@[simp] theorem waitEdge_frame (j : Line) (s : State) :
    (waitEdge j s).tsets = s.tsets ∧ (waitEdge j s).seg = s.seg ∧ (waitEdge j s).dram = s.dram ∧
    (waitEdge j s).win = s.win ∧ (waitEdge j s).resetLow = s.resetLow ∧ (waitEdge j s).free = s.free ∧
    (waitEdge j s).pending = s.pending ∧ (waitEdge j s).ports.cfg = s.ports.cfg ∧
    (waitEdge j s).app.passdone = s.app.passdone ∧ (waitEdge j s).app.failcount = s.app.failcount ∧
    (waitEdge j s).app.firstfail = s.app.firstfail ∧ (waitEdge j s).run.bp = s.run.bp ∧
    (waitEdge j s).run.armcfg = s.run.armcfg ∧ (waitEdge j s).run.starveto = s.run.starveto ∧
    (waitEdge j s).run.failPause = s.run.failPause ∧ (waitEdge j s).run.faillimit = s.run.faillimit ∧
    (waitEdge j s).run.drainAborted = s.run.drainAborted ∧ (waitEdge j s).log.base = s.log.base ∧
    (waitEdge j s).log.size = s.log.size ∧ (waitEdge j s).log.level = s.log.level ∧
    (waitEdge j s).log.wp = s.log.wp ∧ (waitEdge j s).log.rp = s.log.rp ∧
    (waitEdge j s).trig.lines = s.trig.lines ∧ (waitEdge j s).trig.latch = s.trig.latch ∧
    (waitEdge j s).mem.ready = s.mem.ready ∧ (waitEdge j s).mem.msize = s.mem.msize ∧
    (waitEdge j s).mem.initTicks = s.mem.initTicks ∧ (waitEdge j s).mem.zones = s.mem.zones ∧
    (waitEdge j s).mem.zonesel = s.mem.zonesel ∧ (waitEdge j s).mem.refint = s.mem.refint ∧
    (waitEdge j s).mem.refTimer = s.mem.refTimer ∧ (waitEdge j s).mem.owed = s.mem.owed ∧
    (waitEdge j s).mem.refmiss = s.mem.refmiss ∧ (waitEdge j s).mem.passover = s.mem.passover ∧
    (waitEdge j s).ev.enables = s.ev.enables ∧ (waitEdge j s).ev.master = s.ev.master := by
  unfold waitEdge; (repeat' split) <;> simp

/-- What `offerEdge` leaves as it is. -/
@[simp] theorem offerEdge_frame (j : Line) (s : State) :
    (offerEdge j s).tsets = s.tsets ∧ (offerEdge j s).seg = s.seg ∧ (offerEdge j s).dram = s.dram ∧
    (offerEdge j s).win = s.win ∧ (offerEdge j s).resetLow = s.resetLow ∧ (offerEdge j s).free = s.free ∧
    (offerEdge j s).pending = s.pending ∧ (offerEdge j s).ports.cfg = s.ports.cfg ∧
    (offerEdge j s).app.passdone = s.app.passdone ∧ (offerEdge j s).app.failcount = s.app.failcount ∧
    (offerEdge j s).app.firstfail = s.app.firstfail ∧ (offerEdge j s).run.bp = s.run.bp ∧
    (offerEdge j s).run.armcfg = s.run.armcfg ∧ (offerEdge j s).run.starveto = s.run.starveto ∧
    (offerEdge j s).run.failPause = s.run.failPause ∧ (offerEdge j s).run.faillimit = s.run.faillimit ∧
    (offerEdge j s).run.drainAborted = s.run.drainAborted ∧ (offerEdge j s).log.base = s.log.base ∧
    (offerEdge j s).log.size = s.log.size ∧ (offerEdge j s).log.level = s.log.level ∧
    (offerEdge j s).log.wp = s.log.wp ∧ (offerEdge j s).log.rp = s.log.rp ∧
    (offerEdge j s).trig.lines = s.trig.lines ∧ (offerEdge j s).trig.latch = s.trig.latch ∧
    (offerEdge j s).mem.ready = s.mem.ready ∧ (offerEdge j s).mem.msize = s.mem.msize ∧
    (offerEdge j s).mem.initTicks = s.mem.initTicks ∧ (offerEdge j s).mem.zones = s.mem.zones ∧
    (offerEdge j s).mem.zonesel = s.mem.zonesel ∧ (offerEdge j s).mem.refint = s.mem.refint ∧
    (offerEdge j s).mem.refTimer = s.mem.refTimer ∧ (offerEdge j s).mem.owed = s.mem.owed ∧
    (offerEdge j s).mem.refmiss = s.mem.refmiss ∧ (offerEdge j s).mem.passover = s.mem.passover ∧
    (offerEdge j s).ev.enables = s.ev.enables ∧ (offerEdge j s).ev.master = s.ev.master := by
  unfold offerEdge; (repeat' split) <;> simp


/-! ## Applier steps -/

/-- What `driveEdge` leaves as it is. -/
@[simp] theorem driveEdge_frame (p : Period) (s : State) :
    (driveEdge p s).tsets = s.tsets ∧ (driveEdge p s).seg = s.seg ∧ (driveEdge p s).walker = s.walker ∧
    (driveEdge p s).queue = s.queue ∧ (driveEdge p s).run = s.run ∧ (driveEdge p s).log = s.log ∧
    (driveEdge p s).mem = s.mem ∧ (driveEdge p s).dram = s.dram ∧ (driveEdge p s).win = s.win ∧
    (driveEdge p s).ev = s.ev ∧ (driveEdge p s).resetLow = s.resetLow ∧ (driveEdge p s).free = s.free ∧
    (driveEdge p s).pending = s.pending ∧ (driveEdge p s).ports.cfg = s.ports.cfg ∧
    (driveEdge p s).app.stream = s.app.stream ∧ (driveEdge p s).app.skipOnce = s.app.skipOnce ∧
    (driveEdge p s).app.wait = s.app.wait ∧ (driveEdge p s).app.passdone = s.app.passdone ∧
    (driveEdge p s).app.vcount = s.app.vcount ∧ (driveEdge p s).app.failcount = s.app.failcount ∧
    (driveEdge p s).app.firstfail = s.app.firstfail ∧ (driveEdge p s).trig.lines = s.trig.lines ∧
    (driveEdge p s).trig.latch = s.trig.latch := by unfold driveEdge; split <;> simp

/-- What `recordFirstFail` leaves as it is. -/
@[simp] theorem recordFirstFail_frame (p : Period) (s : State) :
    (recordFirstFail p s).ports = s.ports ∧ (recordFirstFail p s).tsets = s.tsets ∧
    (recordFirstFail p s).seg = s.seg ∧ (recordFirstFail p s).walker = s.walker ∧
    (recordFirstFail p s).queue = s.queue ∧ (recordFirstFail p s).run = s.run ∧
    (recordFirstFail p s).log = s.log ∧ (recordFirstFail p s).trig = s.trig ∧ (recordFirstFail p s).mem = s.mem ∧
    (recordFirstFail p s).dram = s.dram ∧ (recordFirstFail p s).win = s.win ∧
    (recordFirstFail p s).resetLow = s.resetLow ∧ (recordFirstFail p s).free = s.free ∧
    (recordFirstFail p s).pending = s.pending ∧ (recordFirstFail p s).app.stream = s.app.stream ∧
    (recordFirstFail p s).app.period = s.app.period ∧ (recordFirstFail p s).app.skipOnce = s.app.skipOnce ∧
    (recordFirstFail p s).app.wait = s.app.wait ∧ (recordFirstFail p s).app.passdone = s.app.passdone ∧
    (recordFirstFail p s).app.vcount = s.app.vcount ∧ (recordFirstFail p s).app.failcount = s.app.failcount ∧
    (recordFirstFail p s).ev.enables = s.ev.enables ∧ (recordFirstFail p s).ev.master = s.ev.master := by
  simp [recordFirstFail]

/-- What `failRequest` leaves as it is. -/
@[simp] theorem failRequest_frame (s : State) :
    (failRequest s).ports = s.ports ∧ (failRequest s).tsets = s.tsets ∧ (failRequest s).seg = s.seg ∧
    (failRequest s).walker = s.walker ∧ (failRequest s).queue = s.queue ∧ (failRequest s).app = s.app ∧
    (failRequest s).log = s.log ∧ (failRequest s).trig = s.trig ∧ (failRequest s).mem = s.mem ∧
    (failRequest s).dram = s.dram ∧ (failRequest s).win = s.win ∧ (failRequest s).ev = s.ev ∧
    (failRequest s).resetLow = s.resetLow ∧ (failRequest s).free = s.free ∧ (failRequest s).pending = s.pending ∧
    (failRequest s).run.state = s.run.state ∧ (failRequest s).run.cause = s.run.cause ∧
    (failRequest s).run.suspended = s.run.suspended ∧ (failRequest s).run.fault = s.run.fault ∧
    (failRequest s).run.bp = s.run.bp ∧ (failRequest s).run.armcfg = s.run.armcfg ∧
    (failRequest s).run.starveto = s.run.starveto ∧ (failRequest s).run.failPause = s.run.failPause ∧
    (failRequest s).run.faillimit = s.run.faillimit ∧ (failRequest s).run.pauseHost = s.run.pauseHost ∧
    (failRequest s).run.pauseStep = s.run.pauseStep ∧ (failRequest s).run.stepReq = s.run.stepReq ∧
    (failRequest s).run.starve = s.run.starve ∧ (failRequest s).run.drainAborted = s.run.drainAborted := by
  unfold failRequest; (repeat' split) <;> simp

/-- What `countFailure` leaves as it is. -/
@[simp] theorem countFailure_frame (p : Period) (s : State) :
    (countFailure p s).ports = s.ports ∧ (countFailure p s).tsets = s.tsets ∧ (countFailure p s).seg = s.seg ∧
    (countFailure p s).walker = s.walker ∧ (countFailure p s).queue = s.queue ∧ (countFailure p s).log = s.log ∧
    (countFailure p s).mem = s.mem ∧ (countFailure p s).dram = s.dram ∧ (countFailure p s).win = s.win ∧
    (countFailure p s).resetLow = s.resetLow ∧ (countFailure p s).free = s.free ∧
    (countFailure p s).pending = s.pending ∧ (countFailure p s).app.stream = s.app.stream ∧
    (countFailure p s).app.period = s.app.period ∧ (countFailure p s).app.skipOnce = s.app.skipOnce ∧
    (countFailure p s).app.wait = s.app.wait ∧ (countFailure p s).app.passdone = s.app.passdone ∧
    (countFailure p s).app.vcount = s.app.vcount ∧ (countFailure p s).run.state = s.run.state ∧
    (countFailure p s).run.cause = s.run.cause ∧ (countFailure p s).run.suspended = s.run.suspended ∧
    (countFailure p s).run.fault = s.run.fault ∧ (countFailure p s).run.bp = s.run.bp ∧
    (countFailure p s).run.armcfg = s.run.armcfg ∧ (countFailure p s).run.starveto = s.run.starveto ∧
    (countFailure p s).run.failPause = s.run.failPause ∧ (countFailure p s).run.faillimit = s.run.faillimit ∧
    (countFailure p s).run.pauseHost = s.run.pauseHost ∧ (countFailure p s).run.pauseStep = s.run.pauseStep ∧
    (countFailure p s).run.stepReq = s.run.stepReq ∧ (countFailure p s).run.starve = s.run.starve ∧
    (countFailure p s).run.drainAborted = s.run.drainAborted ∧ (countFailure p s).trig.lines = s.trig.lines ∧
    (countFailure p s).trig.latch = s.trig.latch ∧ (countFailure p s).ev.enables = s.ev.enables ∧
    (countFailure p s).ev.master = s.ev.master := by simp only [countFailure]; (repeat' split) <;> simp

/-- What `strobe` leaves as it is. -/
@[simp] theorem strobe_frame (p : Period) (pads : Vector HW 4) (s : State) :
    (strobe p pads s).ports = s.ports ∧ (strobe p pads s).tsets = s.tsets ∧ (strobe p pads s).seg = s.seg ∧
    (strobe p pads s).walker = s.walker ∧ (strobe p pads s).queue = s.queue ∧ (strobe p pads s).mem = s.mem ∧
    (strobe p pads s).dram = s.dram ∧ (strobe p pads s).win = s.win ∧ (strobe p pads s).resetLow = s.resetLow ∧
    (strobe p pads s).free = s.free ∧ (strobe p pads s).pending = s.pending ∧
    (strobe p pads s).app.stream = s.app.stream ∧ (strobe p pads s).app.skipOnce = s.app.skipOnce ∧
    (strobe p pads s).app.wait = s.app.wait ∧ (strobe p pads s).app.passdone = s.app.passdone ∧
    (strobe p pads s).app.vcount = s.app.vcount ∧ (strobe p pads s).run.state = s.run.state ∧
    (strobe p pads s).run.cause = s.run.cause ∧ (strobe p pads s).run.suspended = s.run.suspended ∧
    (strobe p pads s).run.fault = s.run.fault ∧ (strobe p pads s).run.bp = s.run.bp ∧
    (strobe p pads s).run.armcfg = s.run.armcfg ∧ (strobe p pads s).run.starveto = s.run.starveto ∧
    (strobe p pads s).run.failPause = s.run.failPause ∧ (strobe p pads s).run.faillimit = s.run.faillimit ∧
    (strobe p pads s).run.pauseHost = s.run.pauseHost ∧ (strobe p pads s).run.pauseStep = s.run.pauseStep ∧
    (strobe p pads s).run.stepReq = s.run.stepReq ∧ (strobe p pads s).run.starve = s.run.starve ∧
    (strobe p pads s).run.drainAborted = s.run.drainAborted ∧ (strobe p pads s).log.base = s.log.base ∧
    (strobe p pads s).log.size = s.log.size ∧ (strobe p pads s).log.level = s.log.level ∧
    (strobe p pads s).log.wp = s.log.wp ∧ (strobe p pads s).log.rp = s.log.rp ∧
    (strobe p pads s).log.endProduced = s.log.endProduced ∧ (strobe p pads s).trig.lines = s.trig.lines ∧
    (strobe p pads s).trig.latch = s.trig.latch ∧ (strobe p pads s).ev.enables = s.ev.enables ∧
    (strobe p pads s).ev.master = s.ev.master := by simp only [strobe]; (repeat' split) <;> simp

/-- What `updatePassdone` leaves as it is. -/
@[simp] theorem updatePassdone_frame (p : Period) (s : State) :
    (updatePassdone p s).ports = s.ports ∧ (updatePassdone p s).tsets = s.tsets ∧
    (updatePassdone p s).seg = s.seg ∧ (updatePassdone p s).walker = s.walker ∧
    (updatePassdone p s).queue = s.queue ∧ (updatePassdone p s).run = s.run ∧ (updatePassdone p s).log = s.log ∧
    (updatePassdone p s).trig = s.trig ∧ (updatePassdone p s).mem = s.mem ∧ (updatePassdone p s).dram = s.dram ∧
    (updatePassdone p s).win = s.win ∧ (updatePassdone p s).ev = s.ev ∧
    (updatePassdone p s).resetLow = s.resetLow ∧ (updatePassdone p s).free = s.free ∧
    (updatePassdone p s).pending = s.pending ∧ (updatePassdone p s).app.stream = s.app.stream ∧
    (updatePassdone p s).app.period = s.app.period ∧ (updatePassdone p s).app.skipOnce = s.app.skipOnce ∧
    (updatePassdone p s).app.wait = s.app.wait ∧ (updatePassdone p s).app.vcount = s.app.vcount ∧
    (updatePassdone p s).app.failcount = s.app.failcount ∧ (updatePassdone p s).app.firstfail = s.app.firstfail := by
  unfold updatePassdone; split <;> simp

/-- What `pauseAtEnd` leaves as it is. -/
@[simp] theorem pauseAtEnd_frame (cause : Cause) (s : State) :
    (pauseAtEnd cause s).ports = s.ports ∧ (pauseAtEnd cause s).tsets = s.tsets ∧
    (pauseAtEnd cause s).seg = s.seg ∧ (pauseAtEnd cause s).walker = s.walker ∧
    (pauseAtEnd cause s).queue = s.queue ∧ (pauseAtEnd cause s).log = s.log ∧
    (pauseAtEnd cause s).trig = s.trig ∧ (pauseAtEnd cause s).mem = s.mem ∧ (pauseAtEnd cause s).dram = s.dram ∧
    (pauseAtEnd cause s).win = s.win ∧ (pauseAtEnd cause s).resetLow = s.resetLow ∧
    (pauseAtEnd cause s).free = s.free ∧ (pauseAtEnd cause s).pending = s.pending ∧
    (pauseAtEnd cause s).app.period = s.app.period ∧ (pauseAtEnd cause s).app.skipOnce = s.app.skipOnce ∧
    (pauseAtEnd cause s).app.wait = s.app.wait ∧ (pauseAtEnd cause s).app.passdone = s.app.passdone ∧
    (pauseAtEnd cause s).app.vcount = s.app.vcount ∧ (pauseAtEnd cause s).app.failcount = s.app.failcount ∧
    (pauseAtEnd cause s).app.firstfail = s.app.firstfail ∧ (pauseAtEnd cause s).run.fault = s.run.fault ∧
    (pauseAtEnd cause s).run.bp = s.run.bp ∧ (pauseAtEnd cause s).run.armcfg = s.run.armcfg ∧
    (pauseAtEnd cause s).run.starveto = s.run.starveto ∧ (pauseAtEnd cause s).run.failPause = s.run.failPause ∧
    (pauseAtEnd cause s).run.faillimit = s.run.faillimit ∧ (pauseAtEnd cause s).run.stopReq = s.run.stopReq ∧
    (pauseAtEnd cause s).run.stepReq = s.run.stepReq ∧ (pauseAtEnd cause s).run.starve = s.run.starve ∧
    (pauseAtEnd cause s).run.drainAborted = s.run.drainAborted ∧ (pauseAtEnd cause s).ev.enables = s.ev.enables ∧
    (pauseAtEnd cause s).ev.master = s.ev.master := by simp [pauseAtEnd]

/-- What `endPeriod` leaves as it is. -/
@[simp] theorem endPeriod_frame (p : Period) (s : State) :
    (endPeriod p s).tsets = s.tsets ∧ (endPeriod p s).seg = s.seg ∧ (endPeriod p s).dram = s.dram ∧
    (endPeriod p s).win = s.win ∧ (endPeriod p s).resetLow = s.resetLow ∧ (endPeriod p s).free = s.free ∧
    (endPeriod p s).pending = s.pending ∧ (endPeriod p s).ports.cfg = s.ports.cfg ∧
    (endPeriod p s).app.failcount = s.app.failcount ∧ (endPeriod p s).app.firstfail = s.app.firstfail ∧
    (endPeriod p s).run.bp = s.run.bp ∧ (endPeriod p s).run.armcfg = s.run.armcfg ∧
    (endPeriod p s).run.starveto = s.run.starveto ∧ (endPeriod p s).run.failPause = s.run.failPause ∧
    (endPeriod p s).run.faillimit = s.run.faillimit ∧ (endPeriod p s).run.drainAborted = s.run.drainAborted ∧
    (endPeriod p s).log.base = s.log.base ∧ (endPeriod p s).log.size = s.log.size ∧
    (endPeriod p s).log.level = s.log.level ∧ (endPeriod p s).log.wp = s.log.wp ∧
    (endPeriod p s).log.rp = s.log.rp ∧ (endPeriod p s).trig.lines = s.trig.lines ∧
    (endPeriod p s).trig.latch = s.trig.latch ∧ (endPeriod p s).mem.ready = s.mem.ready ∧
    (endPeriod p s).mem.msize = s.mem.msize ∧ (endPeriod p s).mem.initTicks = s.mem.initTicks ∧
    (endPeriod p s).mem.zones = s.mem.zones ∧ (endPeriod p s).mem.zonesel = s.mem.zonesel ∧
    (endPeriod p s).mem.refint = s.mem.refint ∧ (endPeriod p s).mem.refTimer = s.mem.refTimer ∧
    (endPeriod p s).mem.owed = s.mem.owed ∧ (endPeriod p s).mem.refmiss = s.mem.refmiss ∧
    (endPeriod p s).mem.passover = s.mem.passover ∧ (endPeriod p s).ev.enables = s.ev.enables ∧
    (endPeriod p s).ev.master = s.ev.master := by simp only [endPeriod]; (repeat' split) <;> simp

/-- What `matchSample` leaves as it is. -/
@[simp] theorem matchSample_frame (w : WaitProgress) (pads : Vector HW 4) (s : State) :
    (matchSample w pads s).tsets = s.tsets ∧ (matchSample w pads s).seg = s.seg ∧
    (matchSample w pads s).dram = s.dram ∧ (matchSample w pads s).win = s.win ∧
    (matchSample w pads s).resetLow = s.resetLow ∧ (matchSample w pads s).free = s.free ∧
    (matchSample w pads s).pending = s.pending ∧ (matchSample w pads s).ports.cfg = s.ports.cfg ∧
    (matchSample w pads s).app.passdone = s.app.passdone ∧
    (matchSample w pads s).app.failcount = s.app.failcount ∧
    (matchSample w pads s).app.firstfail = s.app.firstfail ∧ (matchSample w pads s).run.bp = s.run.bp ∧
    (matchSample w pads s).run.armcfg = s.run.armcfg ∧ (matchSample w pads s).run.starveto = s.run.starveto ∧
    (matchSample w pads s).run.failPause = s.run.failPause ∧
    (matchSample w pads s).run.faillimit = s.run.faillimit ∧
    (matchSample w pads s).run.drainAborted = s.run.drainAborted ∧ (matchSample w pads s).log.base = s.log.base ∧
    (matchSample w pads s).log.size = s.log.size ∧ (matchSample w pads s).log.level = s.log.level ∧
    (matchSample w pads s).log.wp = s.log.wp ∧ (matchSample w pads s).log.rp = s.log.rp ∧
    (matchSample w pads s).trig.lines = s.trig.lines ∧ (matchSample w pads s).trig.latch = s.trig.latch ∧
    (matchSample w pads s).mem.ready = s.mem.ready ∧ (matchSample w pads s).mem.msize = s.mem.msize ∧
    (matchSample w pads s).mem.initTicks = s.mem.initTicks ∧ (matchSample w pads s).mem.zones = s.mem.zones ∧
    (matchSample w pads s).mem.zonesel = s.mem.zonesel ∧ (matchSample w pads s).mem.refint = s.mem.refint ∧
    (matchSample w pads s).mem.refTimer = s.mem.refTimer ∧ (matchSample w pads s).mem.owed = s.mem.owed ∧
    (matchSample w pads s).mem.refmiss = s.mem.refmiss ∧ (matchSample w pads s).mem.passover = s.mem.passover ∧
    (matchSample w pads s).ev.enables = s.ev.enables ∧ (matchSample w pads s).ev.master = s.ev.master := by
  simp only [matchSample]; (repeat' split) <;> simp

/-- What `endWaitPeriod` leaves as it is. -/
@[simp] theorem endWaitPeriod_frame (w : WaitProgress) (s : State) :
    (endWaitPeriod w s).tsets = s.tsets ∧ (endWaitPeriod w s).seg = s.seg ∧ (endWaitPeriod w s).dram = s.dram ∧
    (endWaitPeriod w s).win = s.win ∧ (endWaitPeriod w s).resetLow = s.resetLow ∧
    (endWaitPeriod w s).free = s.free ∧ (endWaitPeriod w s).pending = s.pending ∧
    (endWaitPeriod w s).ports.cfg = s.ports.cfg ∧ (endWaitPeriod w s).app.passdone = s.app.passdone ∧
    (endWaitPeriod w s).app.failcount = s.app.failcount ∧ (endWaitPeriod w s).app.firstfail = s.app.firstfail ∧
    (endWaitPeriod w s).run.bp = s.run.bp ∧ (endWaitPeriod w s).run.armcfg = s.run.armcfg ∧
    (endWaitPeriod w s).run.starveto = s.run.starveto ∧ (endWaitPeriod w s).run.failPause = s.run.failPause ∧
    (endWaitPeriod w s).run.faillimit = s.run.faillimit ∧
    (endWaitPeriod w s).run.drainAborted = s.run.drainAborted ∧ (endWaitPeriod w s).log.base = s.log.base ∧
    (endWaitPeriod w s).log.size = s.log.size ∧ (endWaitPeriod w s).log.level = s.log.level ∧
    (endWaitPeriod w s).log.wp = s.log.wp ∧ (endWaitPeriod w s).log.rp = s.log.rp ∧
    (endWaitPeriod w s).trig.lines = s.trig.lines ∧ (endWaitPeriod w s).trig.latch = s.trig.latch ∧
    (endWaitPeriod w s).mem.ready = s.mem.ready ∧ (endWaitPeriod w s).mem.msize = s.mem.msize ∧
    (endWaitPeriod w s).mem.initTicks = s.mem.initTicks ∧ (endWaitPeriod w s).mem.zones = s.mem.zones ∧
    (endWaitPeriod w s).mem.zonesel = s.mem.zonesel ∧ (endWaitPeriod w s).mem.refint = s.mem.refint ∧
    (endWaitPeriod w s).mem.refTimer = s.mem.refTimer ∧ (endWaitPeriod w s).mem.owed = s.mem.owed ∧
    (endWaitPeriod w s).mem.refmiss = s.mem.refmiss ∧ (endWaitPeriod w s).mem.passover = s.mem.passover ∧
    (endWaitPeriod w s).ev.enables = s.ev.enables ∧ (endWaitPeriod w s).ev.master = s.ev.master := by
  simp only [endWaitPeriod]; (repeat' split) <;> simp

end Sys2Proof.Machine
end

