-- ==== Sys2Proof/Laws/Window.lean ====
section
/-! SUPPORT. The frames of the window engine, the memory controller, the resets and the tick: which fields of the state each
operation leaves as they are. -/

namespace Sys2Proof.Machine

set_option Elab.async false

/-! ## The memory controller -/

/-- What `missRefresh` leaves as it is. -/
@[simp] theorem missRefresh_frame (s : State) :
    (missRefresh s).ports = s.ports ∧ (missRefresh s).tsets = s.tsets ∧ (missRefresh s).seg = s.seg ∧
    (missRefresh s).walker = s.walker ∧ (missRefresh s).queue = s.queue ∧ (missRefresh s).app = s.app ∧
    (missRefresh s).run = s.run ∧ (missRefresh s).log = s.log ∧ (missRefresh s).trig = s.trig ∧
    (missRefresh s).win = s.win ∧ (missRefresh s).resetLow = s.resetLow ∧ (missRefresh s).free = s.free ∧
    (missRefresh s).pending = s.pending ∧ (missRefresh s).mem.ready = s.mem.ready ∧
    (missRefresh s).mem.msize = s.mem.msize ∧ (missRefresh s).mem.initTicks = s.mem.initTicks ∧
    (missRefresh s).mem.zones = s.mem.zones ∧ (missRefresh s).mem.zonesel = s.mem.zonesel ∧
    (missRefresh s).mem.refint = s.mem.refint ∧ (missRefresh s).mem.refTimer = s.mem.refTimer ∧
    (missRefresh s).mem.owed = s.mem.owed ∧ (missRefresh s).mem.passover = s.mem.passover ∧
    (missRefresh s).mem.grant = s.mem.grant ∧ (missRefresh s).dram.epoch = s.dram.epoch ∧
    (missRefresh s).ev.enables = s.ev.enables ∧ (missRefresh s).ev.master = s.ev.master := by simp [missRefresh]


/-! ## The window engine -/

/-- What `discardFetchGrant` leaves as it is. -/
@[simp] theorem discardFetchGrant_frame (s : State) :
    (discardFetchGrant s).ports = s.ports ∧ (discardFetchGrant s).tsets = s.tsets ∧
    (discardFetchGrant s).seg = s.seg ∧ (discardFetchGrant s).walker = s.walker ∧
    (discardFetchGrant s).queue = s.queue ∧ (discardFetchGrant s).app = s.app ∧
    (discardFetchGrant s).run = s.run ∧ (discardFetchGrant s).log = s.log ∧ (discardFetchGrant s).trig = s.trig ∧
    (discardFetchGrant s).dram = s.dram ∧ (discardFetchGrant s).win = s.win ∧ (discardFetchGrant s).ev = s.ev ∧
    (discardFetchGrant s).resetLow = s.resetLow ∧ (discardFetchGrant s).free = s.free ∧
    (discardFetchGrant s).pending = s.pending ∧ (discardFetchGrant s).mem.ready = s.mem.ready ∧
    (discardFetchGrant s).mem.msize = s.mem.msize ∧ (discardFetchGrant s).mem.initTicks = s.mem.initTicks ∧
    (discardFetchGrant s).mem.zones = s.mem.zones ∧ (discardFetchGrant s).mem.zonesel = s.mem.zonesel ∧
    (discardFetchGrant s).mem.refint = s.mem.refint ∧ (discardFetchGrant s).mem.refTimer = s.mem.refTimer ∧
    (discardFetchGrant s).mem.owed = s.mem.owed ∧ (discardFetchGrant s).mem.refmiss = s.mem.refmiss ∧
    (discardFetchGrant s).mem.passover = s.mem.passover := by simp [discardFetchGrant]

/-- What `discardAhead` leaves as it is. -/
@[simp] theorem discardAhead_frame (s : State) :
    (discardAhead s).ports = s.ports ∧ (discardAhead s).tsets = s.tsets ∧ (discardAhead s).seg = s.seg ∧
    (discardAhead s).walker = s.walker ∧ (discardAhead s).queue = s.queue ∧ (discardAhead s).app = s.app ∧
    (discardAhead s).run = s.run ∧ (discardAhead s).log = s.log ∧ (discardAhead s).trig = s.trig ∧
    (discardAhead s).dram = s.dram ∧ (discardAhead s).ev = s.ev ∧ (discardAhead s).resetLow = s.resetLow ∧
    (discardAhead s).free = s.free ∧ (discardAhead s).pending = s.pending ∧
    (discardAhead s).mem.ready = s.mem.ready ∧ (discardAhead s).mem.msize = s.mem.msize ∧
    (discardAhead s).mem.initTicks = s.mem.initTicks ∧ (discardAhead s).mem.zones = s.mem.zones ∧
    (discardAhead s).mem.zonesel = s.mem.zonesel ∧ (discardAhead s).mem.refint = s.mem.refint ∧
    (discardAhead s).mem.refTimer = s.mem.refTimer ∧ (discardAhead s).mem.owed = s.mem.owed ∧
    (discardAhead s).mem.refmiss = s.mem.refmiss ∧ (discardAhead s).mem.passover = s.mem.passover ∧
    (discardAhead s).win.cmd = s.win.cmd ∧ (discardAhead s).win.cmdstat = s.win.cmdstat ∧
    (discardAhead s).win.cmdres = s.win.cmdres ∧ (discardAhead s).win.carg = s.win.carg ∧
    (discardAhead s).win.winerr = s.win.winerr ∧ (discardAhead s).win.captures = s.win.captures ∧
    (discardAhead s).win.holdings = s.win.holdings ∧ (discardAhead s).win.waddr = s.win.waddr ∧
    (discardAhead s).win.stride = s.win.stride ∧ (discardAhead s).win.posted = s.win.posted ∧
    (discardAhead s).win.memop = s.win.memop ∧ (discardAhead s).win.mopLast = s.win.mopLast ∧
    (discardAhead s).win.mopCount = s.win.mopCount ∧ (discardAhead s).win.patch = s.win.patch ∧
    (discardAhead s).win.orphan = s.win.orphan ∧ (discardAhead s).win.access = s.win.access ∧
    (discardAhead s).win.busData = s.win.busData := by simp [discardAhead]

/-- What `advanceWaddr` leaves as it is. -/
@[simp] theorem advanceWaddr_frame (s : State) :
    (advanceWaddr s).ports = s.ports ∧ (advanceWaddr s).tsets = s.tsets ∧ (advanceWaddr s).seg = s.seg ∧
    (advanceWaddr s).walker = s.walker ∧ (advanceWaddr s).queue = s.queue ∧ (advanceWaddr s).app = s.app ∧
    (advanceWaddr s).run = s.run ∧ (advanceWaddr s).log = s.log ∧ (advanceWaddr s).trig = s.trig ∧
    (advanceWaddr s).mem = s.mem ∧ (advanceWaddr s).dram = s.dram ∧ (advanceWaddr s).ev = s.ev ∧
    (advanceWaddr s).resetLow = s.resetLow ∧ (advanceWaddr s).free = s.free ∧
    (advanceWaddr s).pending = s.pending ∧ (advanceWaddr s).win.cmd = s.win.cmd ∧
    (advanceWaddr s).win.cmdstat = s.win.cmdstat ∧ (advanceWaddr s).win.cmdres = s.win.cmdres ∧
    (advanceWaddr s).win.carg = s.win.carg ∧ (advanceWaddr s).win.winerr = s.win.winerr ∧
    (advanceWaddr s).win.captures = s.win.captures ∧ (advanceWaddr s).win.holdings = s.win.holdings ∧
    (advanceWaddr s).win.stride = s.win.stride ∧ (advanceWaddr s).win.ahead = s.win.ahead ∧
    (advanceWaddr s).win.fetch = s.win.fetch ∧ (advanceWaddr s).win.posted = s.win.posted ∧
    (advanceWaddr s).win.memop = s.win.memop ∧ (advanceWaddr s).win.mopLast = s.win.mopLast ∧
    (advanceWaddr s).win.mopCount = s.win.mopCount ∧ (advanceWaddr s).win.patch = s.win.patch ∧
    (advanceWaddr s).win.orphan = s.win.orphan ∧ (advanceWaddr s).win.access = s.win.access ∧
    (advanceWaddr s).win.busData = s.win.busData := by simp [advanceWaddr]

/-- What `requestFetch` leaves as it is. -/
@[simp] theorem requestFetch_frame (s : State) :
    (requestFetch s).ports = s.ports ∧ (requestFetch s).tsets = s.tsets ∧ (requestFetch s).seg = s.seg ∧
    (requestFetch s).walker = s.walker ∧ (requestFetch s).queue = s.queue ∧ (requestFetch s).app = s.app ∧
    (requestFetch s).run = s.run ∧ (requestFetch s).log = s.log ∧ (requestFetch s).trig = s.trig ∧
    (requestFetch s).mem = s.mem ∧ (requestFetch s).dram = s.dram ∧ (requestFetch s).ev = s.ev ∧
    (requestFetch s).resetLow = s.resetLow ∧ (requestFetch s).free = s.free ∧
    (requestFetch s).pending = s.pending ∧ (requestFetch s).win.cmd = s.win.cmd ∧
    (requestFetch s).win.cmdstat = s.win.cmdstat ∧ (requestFetch s).win.cmdres = s.win.cmdres ∧
    (requestFetch s).win.carg = s.win.carg ∧ (requestFetch s).win.winerr = s.win.winerr ∧
    (requestFetch s).win.captures = s.win.captures ∧ (requestFetch s).win.holdings = s.win.holdings ∧
    (requestFetch s).win.waddr = s.win.waddr ∧ (requestFetch s).win.stride = s.win.stride ∧
    (requestFetch s).win.ahead = s.win.ahead ∧ (requestFetch s).win.posted = s.win.posted ∧
    (requestFetch s).win.memop = s.win.memop ∧ (requestFetch s).win.mopLast = s.win.mopLast ∧
    (requestFetch s).win.mopCount = s.win.mopCount ∧ (requestFetch s).win.patch = s.win.patch ∧
    (requestFetch s).win.orphan = s.win.orphan ∧ (requestFetch s).win.access = s.win.access ∧
    (requestFetch s).win.busData = s.win.busData := by unfold requestFetch; split <;> simp

/-- What `fetchForRead` leaves as it is. -/
@[simp] theorem fetchForRead_frame (s : State) :
    (fetchForRead s).ports = s.ports ∧ (fetchForRead s).tsets = s.tsets ∧ (fetchForRead s).seg = s.seg ∧
    (fetchForRead s).walker = s.walker ∧ (fetchForRead s).queue = s.queue ∧ (fetchForRead s).app = s.app ∧
    (fetchForRead s).run = s.run ∧ (fetchForRead s).log = s.log ∧ (fetchForRead s).trig = s.trig ∧
    (fetchForRead s).mem = s.mem ∧ (fetchForRead s).dram = s.dram ∧ (fetchForRead s).ev = s.ev ∧
    (fetchForRead s).resetLow = s.resetLow ∧ (fetchForRead s).free = s.free ∧
    (fetchForRead s).pending = s.pending ∧ (fetchForRead s).win.cmd = s.win.cmd ∧
    (fetchForRead s).win.cmdstat = s.win.cmdstat ∧ (fetchForRead s).win.cmdres = s.win.cmdres ∧
    (fetchForRead s).win.carg = s.win.carg ∧ (fetchForRead s).win.winerr = s.win.winerr ∧
    (fetchForRead s).win.captures = s.win.captures ∧ (fetchForRead s).win.holdings = s.win.holdings ∧
    (fetchForRead s).win.waddr = s.win.waddr ∧ (fetchForRead s).win.stride = s.win.stride ∧
    (fetchForRead s).win.ahead = s.win.ahead ∧ (fetchForRead s).win.posted = s.win.posted ∧
    (fetchForRead s).win.memop = s.win.memop ∧ (fetchForRead s).win.mopLast = s.win.mopLast ∧
    (fetchForRead s).win.mopCount = s.win.mopCount ∧ (fetchForRead s).win.patch = s.win.patch ∧
    (fetchForRead s).win.orphan = s.win.orphan ∧ (fetchForRead s).win.access = s.win.access ∧
    (fetchForRead s).win.busData = s.win.busData := by unfold fetchForRead; split <;> simp

/-- What `backgroundFetch` leaves as it is. -/
@[simp] theorem backgroundFetch_frame (s : State) :
    (backgroundFetch s).ports = s.ports ∧ (backgroundFetch s).tsets = s.tsets ∧ (backgroundFetch s).seg = s.seg ∧
    (backgroundFetch s).walker = s.walker ∧ (backgroundFetch s).queue = s.queue ∧
    (backgroundFetch s).app = s.app ∧ (backgroundFetch s).run = s.run ∧ (backgroundFetch s).log = s.log ∧
    (backgroundFetch s).trig = s.trig ∧ (backgroundFetch s).mem = s.mem ∧ (backgroundFetch s).dram = s.dram ∧
    (backgroundFetch s).ev = s.ev ∧ (backgroundFetch s).resetLow = s.resetLow ∧
    (backgroundFetch s).free = s.free ∧ (backgroundFetch s).pending = s.pending ∧
    (backgroundFetch s).win.cmd = s.win.cmd ∧ (backgroundFetch s).win.cmdstat = s.win.cmdstat ∧
    (backgroundFetch s).win.cmdres = s.win.cmdres ∧ (backgroundFetch s).win.carg = s.win.carg ∧
    (backgroundFetch s).win.winerr = s.win.winerr ∧ (backgroundFetch s).win.captures = s.win.captures ∧
    (backgroundFetch s).win.holdings = s.win.holdings ∧ (backgroundFetch s).win.waddr = s.win.waddr ∧
    (backgroundFetch s).win.stride = s.win.stride ∧ (backgroundFetch s).win.ahead = s.win.ahead ∧
    (backgroundFetch s).win.posted = s.win.posted ∧ (backgroundFetch s).win.memop = s.win.memop ∧
    (backgroundFetch s).win.mopLast = s.win.mopLast ∧ (backgroundFetch s).win.mopCount = s.win.mopCount ∧
    (backgroundFetch s).win.patch = s.win.patch ∧ (backgroundFetch s).win.orphan = s.win.orphan ∧
    (backgroundFetch s).win.access = s.win.access ∧ (backgroundFetch s).win.busData = s.win.busData := by
  unfold backgroundFetch; split <;> simp

/-- What `serveRead` leaves as it is. -/
@[simp] theorem serveRead_frame (s : State) :
    (serveRead s).ports = s.ports ∧ (serveRead s).tsets = s.tsets ∧ (serveRead s).seg = s.seg ∧
    (serveRead s).walker = s.walker ∧ (serveRead s).queue = s.queue ∧ (serveRead s).app = s.app ∧
    (serveRead s).run = s.run ∧ (serveRead s).log = s.log ∧ (serveRead s).trig = s.trig ∧
    (serveRead s).mem = s.mem ∧ (serveRead s).dram = s.dram ∧ (serveRead s).ev = s.ev ∧
    (serveRead s).resetLow = s.resetLow ∧ (serveRead s).free = s.free ∧ (serveRead s).pending = s.pending ∧
    (serveRead s).win.cmd = s.win.cmd ∧ (serveRead s).win.cmdstat = s.win.cmdstat ∧
    (serveRead s).win.cmdres = s.win.cmdres ∧ (serveRead s).win.carg = s.win.carg ∧
    (serveRead s).win.winerr = s.win.winerr ∧ (serveRead s).win.captures = s.win.captures ∧
    (serveRead s).win.holdings = s.win.holdings ∧ (serveRead s).win.stride = s.win.stride ∧
    (serveRead s).win.posted = s.win.posted ∧ (serveRead s).win.memop = s.win.memop ∧
    (serveRead s).win.mopLast = s.win.mopLast ∧ (serveRead s).win.mopCount = s.win.mopCount ∧
    (serveRead s).win.patch = s.win.patch ∧ (serveRead s).win.orphan = s.win.orphan := by
  unfold serveRead; split <;> simp

/-- What `acceptRead` leaves as it is. -/
@[simp] theorem acceptRead_frame (s : State) :
    (acceptRead s).ports = s.ports ∧ (acceptRead s).tsets = s.tsets ∧ (acceptRead s).seg = s.seg ∧
    (acceptRead s).walker = s.walker ∧ (acceptRead s).queue = s.queue ∧ (acceptRead s).app = s.app ∧
    (acceptRead s).run = s.run ∧ (acceptRead s).log = s.log ∧ (acceptRead s).trig = s.trig ∧
    (acceptRead s).mem = s.mem ∧ (acceptRead s).dram = s.dram ∧ (acceptRead s).ev = s.ev ∧
    (acceptRead s).resetLow = s.resetLow ∧ (acceptRead s).free = s.free ∧ (acceptRead s).pending = s.pending ∧
    (acceptRead s).win.cmd = s.win.cmd ∧ (acceptRead s).win.cmdstat = s.win.cmdstat ∧
    (acceptRead s).win.cmdres = s.win.cmdres ∧ (acceptRead s).win.carg = s.win.carg ∧
    (acceptRead s).win.winerr = s.win.winerr ∧ (acceptRead s).win.captures = s.win.captures ∧
    (acceptRead s).win.holdings = s.win.holdings ∧ (acceptRead s).win.stride = s.win.stride ∧
    (acceptRead s).win.posted = s.win.posted ∧ (acceptRead s).win.memop = s.win.memop ∧
    (acceptRead s).win.mopLast = s.win.mopLast ∧ (acceptRead s).win.mopCount = s.win.mopCount ∧
    (acceptRead s).win.patch = s.win.patch ∧ (acceptRead s).win.orphan = s.win.orphan := by
  unfold acceptRead; (repeat' split) <;> simp

/-- What `endFetch` leaves as it is. -/
@[simp] theorem endFetch_frame (addr n : Nat) (live : Bool) (s : State) :
    (endFetch addr n live s).ports = s.ports ∧ (endFetch addr n live s).tsets = s.tsets ∧
    (endFetch addr n live s).seg = s.seg ∧ (endFetch addr n live s).walker = s.walker ∧
    (endFetch addr n live s).queue = s.queue ∧ (endFetch addr n live s).app = s.app ∧
    (endFetch addr n live s).run = s.run ∧ (endFetch addr n live s).log = s.log ∧
    (endFetch addr n live s).trig = s.trig ∧ (endFetch addr n live s).dram = s.dram ∧
    (endFetch addr n live s).ev = s.ev ∧ (endFetch addr n live s).resetLow = s.resetLow ∧
    (endFetch addr n live s).pending = s.pending ∧ (endFetch addr n live s).mem.ready = s.mem.ready ∧
    (endFetch addr n live s).mem.msize = s.mem.msize ∧ (endFetch addr n live s).mem.initTicks = s.mem.initTicks ∧
    (endFetch addr n live s).mem.zones = s.mem.zones ∧ (endFetch addr n live s).mem.zonesel = s.mem.zonesel ∧
    (endFetch addr n live s).mem.refint = s.mem.refint ∧ (endFetch addr n live s).mem.refTimer = s.mem.refTimer ∧
    (endFetch addr n live s).mem.owed = s.mem.owed ∧ (endFetch addr n live s).mem.refmiss = s.mem.refmiss ∧
    (endFetch addr n live s).mem.passover = s.mem.passover ∧ (endFetch addr n live s).win.cmd = s.win.cmd ∧
    (endFetch addr n live s).win.cmdstat = s.win.cmdstat ∧ (endFetch addr n live s).win.cmdres = s.win.cmdres ∧
    (endFetch addr n live s).win.carg = s.win.carg ∧ (endFetch addr n live s).win.winerr = s.win.winerr ∧
    (endFetch addr n live s).win.captures = s.win.captures ∧
    (endFetch addr n live s).win.holdings = s.win.holdings ∧ (endFetch addr n live s).win.stride = s.win.stride ∧
    (endFetch addr n live s).win.posted = s.win.posted ∧ (endFetch addr n live s).win.memop = s.win.memop ∧
    (endFetch addr n live s).win.mopLast = s.win.mopLast ∧
    (endFetch addr n live s).win.mopCount = s.win.mopCount ∧ (endFetch addr n live s).win.patch = s.win.patch ∧
    (endFetch addr n live s).win.orphan = s.win.orphan := by simp only [endFetch]; (repeat' split) <;> simp

/-- What `postWrite` leaves as it is. -/
@[simp] theorem postWrite_frame (v : HW) (s : State) :
    (postWrite v s).ports = s.ports ∧ (postWrite v s).tsets = s.tsets ∧ (postWrite v s).seg = s.seg ∧
    (postWrite v s).walker = s.walker ∧ (postWrite v s).queue = s.queue ∧ (postWrite v s).app = s.app ∧
    (postWrite v s).run = s.run ∧ (postWrite v s).log = s.log ∧ (postWrite v s).trig = s.trig ∧
    (postWrite v s).dram = s.dram ∧ (postWrite v s).ev = s.ev ∧ (postWrite v s).resetLow = s.resetLow ∧
    (postWrite v s).free = s.free ∧ (postWrite v s).pending = s.pending ∧
    (postWrite v s).mem.ready = s.mem.ready ∧ (postWrite v s).mem.msize = s.mem.msize ∧
    (postWrite v s).mem.initTicks = s.mem.initTicks ∧ (postWrite v s).mem.zones = s.mem.zones ∧
    (postWrite v s).mem.zonesel = s.mem.zonesel ∧ (postWrite v s).mem.refint = s.mem.refint ∧
    (postWrite v s).mem.refTimer = s.mem.refTimer ∧ (postWrite v s).mem.owed = s.mem.owed ∧
    (postWrite v s).mem.refmiss = s.mem.refmiss ∧ (postWrite v s).mem.passover = s.mem.passover ∧
    (postWrite v s).win.cmd = s.win.cmd ∧ (postWrite v s).win.cmdstat = s.win.cmdstat ∧
    (postWrite v s).win.cmdres = s.win.cmdres ∧ (postWrite v s).win.carg = s.win.carg ∧
    (postWrite v s).win.winerr = s.win.winerr ∧ (postWrite v s).win.captures = s.win.captures ∧
    (postWrite v s).win.holdings = s.win.holdings ∧ (postWrite v s).win.stride = s.win.stride ∧
    (postWrite v s).win.memop = s.win.memop ∧ (postWrite v s).win.mopLast = s.win.mopLast ∧
    (postWrite v s).win.mopCount = s.win.mopCount ∧ (postWrite v s).win.patch = s.win.patch ∧
    (postWrite v s).win.orphan = s.win.orphan ∧ (postWrite v s).win.access = s.win.access ∧
    (postWrite v s).win.busData = s.win.busData := by simp [postWrite]

/-- What `takeWrite` leaves as it is. -/
@[simp] theorem takeWrite_frame (v : HW) (s : State) :
    (takeWrite v s).ports = s.ports ∧ (takeWrite v s).tsets = s.tsets ∧ (takeWrite v s).seg = s.seg ∧
    (takeWrite v s).walker = s.walker ∧ (takeWrite v s).queue = s.queue ∧ (takeWrite v s).app = s.app ∧
    (takeWrite v s).run = s.run ∧ (takeWrite v s).log = s.log ∧ (takeWrite v s).trig = s.trig ∧
    (takeWrite v s).dram = s.dram ∧ (takeWrite v s).resetLow = s.resetLow ∧ (takeWrite v s).free = s.free ∧
    (takeWrite v s).pending = s.pending ∧ (takeWrite v s).mem.ready = s.mem.ready ∧
    (takeWrite v s).mem.msize = s.mem.msize ∧ (takeWrite v s).mem.initTicks = s.mem.initTicks ∧
    (takeWrite v s).mem.zones = s.mem.zones ∧ (takeWrite v s).mem.zonesel = s.mem.zonesel ∧
    (takeWrite v s).mem.refint = s.mem.refint ∧ (takeWrite v s).mem.refTimer = s.mem.refTimer ∧
    (takeWrite v s).mem.owed = s.mem.owed ∧ (takeWrite v s).mem.refmiss = s.mem.refmiss ∧
    (takeWrite v s).mem.passover = s.mem.passover ∧ (takeWrite v s).win.cmd = s.win.cmd ∧
    (takeWrite v s).win.cmdstat = s.win.cmdstat ∧ (takeWrite v s).win.cmdres = s.win.cmdres ∧
    (takeWrite v s).win.carg = s.win.carg ∧ (takeWrite v s).win.captures = s.win.captures ∧
    (takeWrite v s).win.holdings = s.win.holdings ∧ (takeWrite v s).win.stride = s.win.stride ∧
    (takeWrite v s).win.memop = s.win.memop ∧ (takeWrite v s).win.mopLast = s.win.mopLast ∧
    (takeWrite v s).win.mopCount = s.win.mopCount ∧ (takeWrite v s).win.patch = s.win.patch ∧
    (takeWrite v s).win.orphan = s.win.orphan ∧ (takeWrite v s).win.busData = s.win.busData ∧
    (takeWrite v s).ev.enables = s.ev.enables ∧ (takeWrite v s).ev.master = s.ev.master := by
  unfold takeWrite accessUnless; split <;> simp

/-- What `resumeAccess` can do: nothing, the fetch of a waiting read, or the taking of a waiting write. -/
theorem resumeAccess_cases (s : State) :
    resumeAccess s = s ∨ resumeAccess s = fetchForRead s ∨
      ∃ v, resumeAccess s = takeWrite v { s with win.access := none } := by
  unfold resumeAccess
  generalize s.win.access = a
  rcases a with _ | a
  · exact Or.inl rfl
  · cases a with
    | wdataWrite v =>
      by_cases c : s.win.posted.length < 8
      · exact Or.inr (Or.inr ⟨v, if_pos c⟩)
      · exact Or.inl (if_neg c)
    | wdataRead =>
      by_cases c : s.win.posted = []
      · exact Or.inr (Or.inl (if_pos c))
      · exact Or.inl (if_neg c)
    | patch => exact Or.inl rfl
    | cancel => exact Or.inl rfl

/-- What `resumeAccess` leaves as it is. -/
@[simp] theorem resumeAccess_frame (s : State) :
    (resumeAccess s).ports = s.ports ∧ (resumeAccess s).tsets = s.tsets ∧ (resumeAccess s).seg = s.seg ∧
    (resumeAccess s).walker = s.walker ∧ (resumeAccess s).queue = s.queue ∧ (resumeAccess s).app = s.app ∧
    (resumeAccess s).run = s.run ∧ (resumeAccess s).log = s.log ∧ (resumeAccess s).trig = s.trig ∧
    (resumeAccess s).dram = s.dram ∧ (resumeAccess s).resetLow = s.resetLow ∧ (resumeAccess s).free = s.free ∧
    (resumeAccess s).pending = s.pending ∧ (resumeAccess s).mem.ready = s.mem.ready ∧
    (resumeAccess s).mem.msize = s.mem.msize ∧ (resumeAccess s).mem.initTicks = s.mem.initTicks ∧
    (resumeAccess s).mem.zones = s.mem.zones ∧ (resumeAccess s).mem.zonesel = s.mem.zonesel ∧
    (resumeAccess s).mem.refint = s.mem.refint ∧ (resumeAccess s).mem.refTimer = s.mem.refTimer ∧
    (resumeAccess s).mem.owed = s.mem.owed ∧ (resumeAccess s).mem.refmiss = s.mem.refmiss ∧
    (resumeAccess s).mem.passover = s.mem.passover ∧ (resumeAccess s).win.cmd = s.win.cmd ∧
    (resumeAccess s).win.cmdstat = s.win.cmdstat ∧ (resumeAccess s).win.cmdres = s.win.cmdres ∧
    (resumeAccess s).win.carg = s.win.carg ∧ (resumeAccess s).win.captures = s.win.captures ∧
    (resumeAccess s).win.holdings = s.win.holdings ∧ (resumeAccess s).win.stride = s.win.stride ∧
    (resumeAccess s).win.memop = s.win.memop ∧ (resumeAccess s).win.mopLast = s.win.mopLast ∧
    (resumeAccess s).win.mopCount = s.win.mopCount ∧ (resumeAccess s).win.patch = s.win.patch ∧
    (resumeAccess s).win.orphan = s.win.orphan ∧ (resumeAccess s).win.busData = s.win.busData ∧
    (resumeAccess s).ev.enables = s.ev.enables ∧ (resumeAccess s).ev.master = s.ev.master := by
  rcases resumeAccess_cases s with h | h | ⟨v, h⟩ <;> rw [h] <;> simp

/-- What `drainWrite` leaves as it is. -/
@[simp] theorem drainWrite_frame (live : Bool) (s : State) (w : PostedWrite) :
    (drainWrite live s w).ports = s.ports ∧ (drainWrite live s w).tsets = s.tsets ∧
    (drainWrite live s w).seg = s.seg ∧ (drainWrite live s w).walker = s.walker ∧
    (drainWrite live s w).queue = s.queue ∧ (drainWrite live s w).app = s.app ∧
    (drainWrite live s w).run = s.run ∧ (drainWrite live s w).log = s.log ∧ (drainWrite live s w).trig = s.trig ∧
    (drainWrite live s w).resetLow = s.resetLow ∧ (drainWrite live s w).free = s.free ∧
    (drainWrite live s w).pending = s.pending ∧ (drainWrite live s w).mem.ready = s.mem.ready ∧
    (drainWrite live s w).mem.msize = s.mem.msize ∧ (drainWrite live s w).mem.initTicks = s.mem.initTicks ∧
    (drainWrite live s w).mem.zones = s.mem.zones ∧ (drainWrite live s w).mem.zonesel = s.mem.zonesel ∧
    (drainWrite live s w).mem.refint = s.mem.refint ∧ (drainWrite live s w).mem.refTimer = s.mem.refTimer ∧
    (drainWrite live s w).mem.owed = s.mem.owed ∧ (drainWrite live s w).mem.refmiss = s.mem.refmiss ∧
    (drainWrite live s w).mem.passover = s.mem.passover ∧ (drainWrite live s w).dram.epoch = s.dram.epoch ∧
    (drainWrite live s w).dram.decayed = s.dram.decayed ∧ (drainWrite live s w).win.cmd = s.win.cmd ∧
    (drainWrite live s w).win.cmdstat = s.win.cmdstat ∧ (drainWrite live s w).win.cmdres = s.win.cmdres ∧
    (drainWrite live s w).win.carg = s.win.carg ∧ (drainWrite live s w).win.captures = s.win.captures ∧
    (drainWrite live s w).win.holdings = s.win.holdings ∧ (drainWrite live s w).win.stride = s.win.stride ∧
    (drainWrite live s w).win.memop = s.win.memop ∧ (drainWrite live s w).win.mopLast = s.win.mopLast ∧
    (drainWrite live s w).win.mopCount = s.win.mopCount ∧ (drainWrite live s w).win.patch = s.win.patch ∧
    (drainWrite live s w).win.orphan = s.win.orphan ∧ (drainWrite live s w).win.busData = s.win.busData ∧
    (drainWrite live s w).ev.enables = s.ev.enables ∧ (drainWrite live s w).ev.master = s.ev.master := by
  simp only [drainWrite]; split <;> simp [writePosted]

/-- What `drainNext` leaves as it is. -/
@[simp] theorem drainNext_frame (live : Bool) (s : State) (ws : List PostedWrite) :
    (drainNext live s ws).ports = s.ports ∧ (drainNext live s ws).tsets = s.tsets ∧
    (drainNext live s ws).seg = s.seg ∧ (drainNext live s ws).walker = s.walker ∧
    (drainNext live s ws).queue = s.queue ∧ (drainNext live s ws).app = s.app ∧
    (drainNext live s ws).run = s.run ∧ (drainNext live s ws).log = s.log ∧
    (drainNext live s ws).trig = s.trig ∧ (drainNext live s ws).resetLow = s.resetLow ∧
    (drainNext live s ws).free = s.free ∧ (drainNext live s ws).pending = s.pending ∧
    (drainNext live s ws).mem.ready = s.mem.ready ∧ (drainNext live s ws).mem.msize = s.mem.msize ∧
    (drainNext live s ws).mem.initTicks = s.mem.initTicks ∧ (drainNext live s ws).mem.zones = s.mem.zones ∧
    (drainNext live s ws).mem.zonesel = s.mem.zonesel ∧ (drainNext live s ws).mem.refint = s.mem.refint ∧
    (drainNext live s ws).mem.refTimer = s.mem.refTimer ∧ (drainNext live s ws).mem.owed = s.mem.owed ∧
    (drainNext live s ws).mem.refmiss = s.mem.refmiss ∧ (drainNext live s ws).mem.passover = s.mem.passover ∧
    (drainNext live s ws).dram.epoch = s.dram.epoch ∧ (drainNext live s ws).dram.decayed = s.dram.decayed ∧
    (drainNext live s ws).win.cmd = s.win.cmd ∧ (drainNext live s ws).win.cmdstat = s.win.cmdstat ∧
    (drainNext live s ws).win.cmdres = s.win.cmdres ∧ (drainNext live s ws).win.carg = s.win.carg ∧
    (drainNext live s ws).win.captures = s.win.captures ∧
    (drainNext live s ws).win.holdings = s.win.holdings ∧ (drainNext live s ws).win.stride = s.win.stride ∧
    (drainNext live s ws).win.memop = s.win.memop ∧ (drainNext live s ws).win.mopLast = s.win.mopLast ∧
    (drainNext live s ws).win.mopCount = s.win.mopCount ∧ (drainNext live s ws).win.patch = s.win.patch ∧
    (drainNext live s ws).win.orphan = s.win.orphan ∧ (drainNext live s ws).win.busData = s.win.busData ∧
    (drainNext live s ws).ev.enables = s.ev.enables ∧ (drainNext live s ws).ev.master = s.ev.master := by
  cases ws <;> simp [drainNext, freePort]

/-- What `startMemop` leaves as it is. -/
@[simp] theorem startMemop_frame (op : MemOp) (s : State) :
    (startMemop op s).ports = s.ports ∧ (startMemop op s).tsets = s.tsets ∧ (startMemop op s).seg = s.seg ∧
    (startMemop op s).walker = s.walker ∧ (startMemop op s).queue = s.queue ∧ (startMemop op s).app = s.app ∧
    (startMemop op s).run = s.run ∧ (startMemop op s).log = s.log ∧ (startMemop op s).trig = s.trig ∧
    (startMemop op s).dram = s.dram ∧ (startMemop op s).ev = s.ev ∧ (startMemop op s).resetLow = s.resetLow ∧
    (startMemop op s).free = s.free ∧ (startMemop op s).pending = s.pending ∧
    (startMemop op s).mem.ready = s.mem.ready ∧ (startMemop op s).mem.msize = s.mem.msize ∧
    (startMemop op s).mem.initTicks = s.mem.initTicks ∧ (startMemop op s).mem.zones = s.mem.zones ∧
    (startMemop op s).mem.zonesel = s.mem.zonesel ∧ (startMemop op s).mem.refint = s.mem.refint ∧
    (startMemop op s).mem.refTimer = s.mem.refTimer ∧ (startMemop op s).mem.owed = s.mem.owed ∧
    (startMemop op s).mem.refmiss = s.mem.refmiss ∧ (startMemop op s).mem.passover = s.mem.passover ∧
    (startMemop op s).win.cmd = s.win.cmd ∧ (startMemop op s).win.carg = s.win.carg ∧
    (startMemop op s).win.winerr = s.win.winerr ∧ (startMemop op s).win.captures = s.win.captures ∧
    (startMemop op s).win.holdings = s.win.holdings ∧ (startMemop op s).win.waddr = s.win.waddr ∧
    (startMemop op s).win.stride = s.win.stride ∧ (startMemop op s).win.posted = s.win.posted ∧
    (startMemop op s).win.mopLast = s.win.mopLast ∧ (startMemop op s).win.patch = s.win.patch ∧
    (startMemop op s).win.access = s.win.access ∧ (startMemop op s).win.busData = s.win.busData := by simp [startMemop]

/-- What `cancelMemop` leaves as it is. -/
@[simp] theorem cancelMemop_frame (s : State) :
    (cancelMemop s).ports = s.ports ∧ (cancelMemop s).tsets = s.tsets ∧ (cancelMemop s).seg = s.seg ∧
    (cancelMemop s).walker = s.walker ∧ (cancelMemop s).queue = s.queue ∧ (cancelMemop s).app = s.app ∧
    (cancelMemop s).run = s.run ∧ (cancelMemop s).log = s.log ∧ (cancelMemop s).trig = s.trig ∧
    (cancelMemop s).mem = s.mem ∧ (cancelMemop s).dram = s.dram ∧ (cancelMemop s).ev = s.ev ∧
    (cancelMemop s).resetLow = s.resetLow ∧ (cancelMemop s).free = s.free ∧ (cancelMemop s).pending = s.pending ∧
    (cancelMemop s).win.cmd = s.win.cmd ∧ (cancelMemop s).win.carg = s.win.carg ∧
    (cancelMemop s).win.winerr = s.win.winerr ∧ (cancelMemop s).win.captures = s.win.captures ∧
    (cancelMemop s).win.holdings = s.win.holdings ∧ (cancelMemop s).win.waddr = s.win.waddr ∧
    (cancelMemop s).win.stride = s.win.stride ∧ (cancelMemop s).win.ahead = s.win.ahead ∧
    (cancelMemop s).win.fetch = s.win.fetch ∧ (cancelMemop s).win.posted = s.win.posted ∧
    (cancelMemop s).win.mopCount = s.win.mopCount ∧ (cancelMemop s).win.patch = s.win.patch ∧
    (cancelMemop s).win.orphan = s.win.orphan ∧ (cancelMemop s).win.busData = s.win.busData := by simp [cancelMemop]

/-- What `countBurst` leaves as it is. -/
@[simp] theorem countBurst_frame (n : Nat) (s : State) :
    (countBurst n s).ports = s.ports ∧ (countBurst n s).tsets = s.tsets ∧ (countBurst n s).seg = s.seg ∧
    (countBurst n s).walker = s.walker ∧ (countBurst n s).queue = s.queue ∧ (countBurst n s).app = s.app ∧
    (countBurst n s).run = s.run ∧ (countBurst n s).log = s.log ∧ (countBurst n s).trig = s.trig ∧
    (countBurst n s).mem = s.mem ∧ (countBurst n s).dram = s.dram ∧ (countBurst n s).ev = s.ev ∧
    (countBurst n s).resetLow = s.resetLow ∧ (countBurst n s).free = s.free ∧
    (countBurst n s).pending = s.pending ∧ (countBurst n s).win.cmd = s.win.cmd ∧
    (countBurst n s).win.cmdstat = s.win.cmdstat ∧ (countBurst n s).win.cmdres = s.win.cmdres ∧
    (countBurst n s).win.carg = s.win.carg ∧ (countBurst n s).win.winerr = s.win.winerr ∧
    (countBurst n s).win.captures = s.win.captures ∧ (countBurst n s).win.holdings = s.win.holdings ∧
    (countBurst n s).win.waddr = s.win.waddr ∧ (countBurst n s).win.stride = s.win.stride ∧
    (countBurst n s).win.ahead = s.win.ahead ∧ (countBurst n s).win.fetch = s.win.fetch ∧
    (countBurst n s).win.posted = s.win.posted ∧ (countBurst n s).win.memop = s.win.memop ∧
    (countBurst n s).win.mopLast = s.win.mopLast ∧ (countBurst n s).win.patch = s.win.patch ∧
    (countBurst n s).win.orphan = s.win.orphan ∧ (countBurst n s).win.access = s.win.access ∧
    (countBurst n s).win.busData = s.win.busData := by simp [countBurst]

/-- What `endLiveBurst` leaves as it is. -/
@[simp] theorem endLiveBurst_frame (s : State) :
    (endLiveBurst s).ports = s.ports ∧ (endLiveBurst s).tsets = s.tsets ∧ (endLiveBurst s).seg = s.seg ∧
    (endLiveBurst s).walker = s.walker ∧ (endLiveBurst s).queue = s.queue ∧ (endLiveBurst s).app = s.app ∧
    (endLiveBurst s).run = s.run ∧ (endLiveBurst s).log = s.log ∧ (endLiveBurst s).trig = s.trig ∧
    (endLiveBurst s).mem = s.mem ∧ (endLiveBurst s).dram = s.dram ∧ (endLiveBurst s).resetLow = s.resetLow ∧
    (endLiveBurst s).free = s.free ∧ (endLiveBurst s).pending = s.pending ∧
    (endLiveBurst s).win.cmd = s.win.cmd ∧ (endLiveBurst s).win.carg = s.win.carg ∧
    (endLiveBurst s).win.winerr = s.win.winerr ∧ (endLiveBurst s).win.captures = s.win.captures ∧
    (endLiveBurst s).win.holdings = s.win.holdings ∧ (endLiveBurst s).win.waddr = s.win.waddr ∧
    (endLiveBurst s).win.stride = s.win.stride ∧ (endLiveBurst s).win.ahead = s.win.ahead ∧
    (endLiveBurst s).win.fetch = s.win.fetch ∧ (endLiveBurst s).win.posted = s.win.posted ∧
    (endLiveBurst s).win.mopCount = s.win.mopCount ∧ (endLiveBurst s).win.patch = s.win.patch ∧
    (endLiveBurst s).win.orphan = s.win.orphan ∧ (endLiveBurst s).win.busData = s.win.busData ∧
    (endLiveBurst s).ev.enables = s.ev.enables ∧ (endLiveBurst s).ev.master = s.ev.master := by
  unfold endLiveBurst; (repeat' split) <;> simp

/-- What `endBurst` leaves as it is. -/
@[simp] theorem endBurst_frame (n : Nat) (o : Owner) (s : State) :
    (endBurst n o s).ports = s.ports ∧ (endBurst n o s).tsets = s.tsets ∧ (endBurst n o s).seg = s.seg ∧
    (endBurst n o s).walker = s.walker ∧ (endBurst n o s).queue = s.queue ∧ (endBurst n o s).app = s.app ∧
    (endBurst n o s).run = s.run ∧ (endBurst n o s).log = s.log ∧ (endBurst n o s).trig = s.trig ∧
    (endBurst n o s).mem = s.mem ∧ (endBurst n o s).dram = s.dram ∧ (endBurst n o s).resetLow = s.resetLow ∧
    (endBurst n o s).free = s.free ∧ (endBurst n o s).pending = s.pending ∧
    (endBurst n o s).win.cmd = s.win.cmd ∧ (endBurst n o s).win.carg = s.win.carg ∧
    (endBurst n o s).win.winerr = s.win.winerr ∧ (endBurst n o s).win.captures = s.win.captures ∧
    (endBurst n o s).win.holdings = s.win.holdings ∧ (endBurst n o s).win.waddr = s.win.waddr ∧
    (endBurst n o s).win.stride = s.win.stride ∧ (endBurst n o s).win.ahead = s.win.ahead ∧
    (endBurst n o s).win.fetch = s.win.fetch ∧ (endBurst n o s).win.posted = s.win.posted ∧
    (endBurst n o s).win.patch = s.win.patch ∧ (endBurst n o s).win.orphan = s.win.orphan ∧
    (endBurst n o s).win.busData = s.win.busData ∧ (endBurst n o s).ev.enables = s.ev.enables ∧
    (endBurst n o s).ev.master = s.ev.master := by unfold endBurst; (repeat' split) <;> simp

/-- What `endFillBurst` leaves as it is. -/
@[simp] theorem endFillBurst_frame (dst n : Nat) (v : HW) (o : Owner) (s : State) :
    (endFillBurst dst n v o s).ports = s.ports ∧ (endFillBurst dst n v o s).tsets = s.tsets ∧
    (endFillBurst dst n v o s).seg = s.seg ∧ (endFillBurst dst n v o s).walker = s.walker ∧
    (endFillBurst dst n v o s).queue = s.queue ∧ (endFillBurst dst n v o s).app = s.app ∧
    (endFillBurst dst n v o s).run = s.run ∧ (endFillBurst dst n v o s).log = s.log ∧
    (endFillBurst dst n v o s).trig = s.trig ∧ (endFillBurst dst n v o s).resetLow = s.resetLow ∧
    (endFillBurst dst n v o s).free = s.free ∧ (endFillBurst dst n v o s).pending = s.pending ∧
    (endFillBurst dst n v o s).mem.ready = s.mem.ready ∧ (endFillBurst dst n v o s).mem.msize = s.mem.msize ∧
    (endFillBurst dst n v o s).mem.initTicks = s.mem.initTicks ∧
    (endFillBurst dst n v o s).mem.zones = s.mem.zones ∧ (endFillBurst dst n v o s).mem.zonesel = s.mem.zonesel ∧
    (endFillBurst dst n v o s).mem.refint = s.mem.refint ∧
    (endFillBurst dst n v o s).mem.refTimer = s.mem.refTimer ∧ (endFillBurst dst n v o s).mem.owed = s.mem.owed ∧
    (endFillBurst dst n v o s).mem.refmiss = s.mem.refmiss ∧
    (endFillBurst dst n v o s).mem.passover = s.mem.passover ∧
    (endFillBurst dst n v o s).dram.epoch = s.dram.epoch ∧
    (endFillBurst dst n v o s).dram.decayed = s.dram.decayed ∧ (endFillBurst dst n v o s).win.cmd = s.win.cmd ∧
    (endFillBurst dst n v o s).win.carg = s.win.carg ∧ (endFillBurst dst n v o s).win.winerr = s.win.winerr ∧
    (endFillBurst dst n v o s).win.captures = s.win.captures ∧
    (endFillBurst dst n v o s).win.holdings = s.win.holdings ∧
    (endFillBurst dst n v o s).win.waddr = s.win.waddr ∧ (endFillBurst dst n v o s).win.stride = s.win.stride ∧
    (endFillBurst dst n v o s).win.ahead = s.win.ahead ∧ (endFillBurst dst n v o s).win.fetch = s.win.fetch ∧
    (endFillBurst dst n v o s).win.posted = s.win.posted ∧ (endFillBurst dst n v o s).win.patch = s.win.patch ∧
    (endFillBurst dst n v o s).win.orphan = s.win.orphan ∧
    (endFillBurst dst n v o s).win.busData = s.win.busData ∧
    (endFillBurst dst n v o s).ev.enables = s.ev.enables ∧ (endFillBurst dst n v o s).ev.master = s.ev.master := by
  simp [endFillBurst]

/-- What `holdCopied` leaves as it is. -/
@[simp] theorem holdCopied_frame (data : List HW) (s : State) :
    (holdCopied data s).ports = s.ports ∧ (holdCopied data s).tsets = s.tsets ∧ (holdCopied data s).seg = s.seg ∧
    (holdCopied data s).walker = s.walker ∧ (holdCopied data s).queue = s.queue ∧
    (holdCopied data s).app = s.app ∧ (holdCopied data s).run = s.run ∧ (holdCopied data s).log = s.log ∧
    (holdCopied data s).trig = s.trig ∧ (holdCopied data s).mem = s.mem ∧ (holdCopied data s).dram = s.dram ∧
    (holdCopied data s).ev = s.ev ∧ (holdCopied data s).resetLow = s.resetLow ∧
    (holdCopied data s).free = s.free ∧ (holdCopied data s).pending = s.pending ∧
    (holdCopied data s).win.cmd = s.win.cmd ∧ (holdCopied data s).win.cmdstat = s.win.cmdstat ∧
    (holdCopied data s).win.cmdres = s.win.cmdres ∧ (holdCopied data s).win.carg = s.win.carg ∧
    (holdCopied data s).win.winerr = s.win.winerr ∧ (holdCopied data s).win.captures = s.win.captures ∧
    (holdCopied data s).win.holdings = s.win.holdings ∧ (holdCopied data s).win.waddr = s.win.waddr ∧
    (holdCopied data s).win.stride = s.win.stride ∧ (holdCopied data s).win.ahead = s.win.ahead ∧
    (holdCopied data s).win.fetch = s.win.fetch ∧ (holdCopied data s).win.posted = s.win.posted ∧
    (holdCopied data s).win.mopLast = s.win.mopLast ∧ (holdCopied data s).win.mopCount = s.win.mopCount ∧
    (holdCopied data s).win.patch = s.win.patch ∧ (holdCopied data s).win.orphan = s.win.orphan ∧
    (holdCopied data s).win.access = s.win.access ∧ (holdCopied data s).win.busData = s.win.busData := by
  unfold holdCopied; split <;> simp

/-- What `endCopyRead` leaves as it is. -/
@[simp] theorem endCopyRead_frame (src dst n : Nat) (o : Owner) (s : State) :
    (endCopyRead src dst n o s).ports = s.ports ∧ (endCopyRead src dst n o s).tsets = s.tsets ∧
    (endCopyRead src dst n o s).seg = s.seg ∧ (endCopyRead src dst n o s).walker = s.walker ∧
    (endCopyRead src dst n o s).queue = s.queue ∧ (endCopyRead src dst n o s).app = s.app ∧
    (endCopyRead src dst n o s).run = s.run ∧ (endCopyRead src dst n o s).log = s.log ∧
    (endCopyRead src dst n o s).trig = s.trig ∧ (endCopyRead src dst n o s).dram = s.dram ∧
    (endCopyRead src dst n o s).ev = s.ev ∧ (endCopyRead src dst n o s).resetLow = s.resetLow ∧
    (endCopyRead src dst n o s).pending = s.pending ∧ (endCopyRead src dst n o s).mem.ready = s.mem.ready ∧
    (endCopyRead src dst n o s).mem.msize = s.mem.msize ∧
    (endCopyRead src dst n o s).mem.initTicks = s.mem.initTicks ∧
    (endCopyRead src dst n o s).mem.zones = s.mem.zones ∧
    (endCopyRead src dst n o s).mem.zonesel = s.mem.zonesel ∧
    (endCopyRead src dst n o s).mem.refint = s.mem.refint ∧
    (endCopyRead src dst n o s).mem.refTimer = s.mem.refTimer ∧
    (endCopyRead src dst n o s).mem.owed = s.mem.owed ∧ (endCopyRead src dst n o s).mem.refmiss = s.mem.refmiss ∧
    (endCopyRead src dst n o s).mem.passover = s.mem.passover ∧ (endCopyRead src dst n o s).win.cmd = s.win.cmd ∧
    (endCopyRead src dst n o s).win.cmdstat = s.win.cmdstat ∧
    (endCopyRead src dst n o s).win.cmdres = s.win.cmdres ∧ (endCopyRead src dst n o s).win.carg = s.win.carg ∧
    (endCopyRead src dst n o s).win.winerr = s.win.winerr ∧
    (endCopyRead src dst n o s).win.captures = s.win.captures ∧
    (endCopyRead src dst n o s).win.holdings = s.win.holdings ∧
    (endCopyRead src dst n o s).win.waddr = s.win.waddr ∧ (endCopyRead src dst n o s).win.stride = s.win.stride ∧
    (endCopyRead src dst n o s).win.ahead = s.win.ahead ∧ (endCopyRead src dst n o s).win.fetch = s.win.fetch ∧
    (endCopyRead src dst n o s).win.posted = s.win.posted ∧
    (endCopyRead src dst n o s).win.mopLast = s.win.mopLast ∧
    (endCopyRead src dst n o s).win.mopCount = s.win.mopCount ∧
    (endCopyRead src dst n o s).win.patch = s.win.patch ∧ (endCopyRead src dst n o s).win.access = s.win.access ∧
    (endCopyRead src dst n o s).win.busData = s.win.busData := by simp only [endCopyRead]; (repeat' split) <;> simp

/-- What `dropCopied` leaves as it is. -/
@[simp] theorem dropCopied_frame (o : Owner) (s : State) :
    (dropCopied o s).ports = s.ports ∧ (dropCopied o s).tsets = s.tsets ∧ (dropCopied o s).seg = s.seg ∧
    (dropCopied o s).walker = s.walker ∧ (dropCopied o s).queue = s.queue ∧ (dropCopied o s).app = s.app ∧
    (dropCopied o s).run = s.run ∧ (dropCopied o s).log = s.log ∧ (dropCopied o s).trig = s.trig ∧
    (dropCopied o s).mem = s.mem ∧ (dropCopied o s).dram = s.dram ∧ (dropCopied o s).ev = s.ev ∧
    (dropCopied o s).resetLow = s.resetLow ∧ (dropCopied o s).free = s.free ∧
    (dropCopied o s).pending = s.pending ∧ (dropCopied o s).win.cmd = s.win.cmd ∧
    (dropCopied o s).win.cmdstat = s.win.cmdstat ∧ (dropCopied o s).win.cmdres = s.win.cmdres ∧
    (dropCopied o s).win.carg = s.win.carg ∧ (dropCopied o s).win.winerr = s.win.winerr ∧
    (dropCopied o s).win.captures = s.win.captures ∧ (dropCopied o s).win.holdings = s.win.holdings ∧
    (dropCopied o s).win.waddr = s.win.waddr ∧ (dropCopied o s).win.stride = s.win.stride ∧
    (dropCopied o s).win.ahead = s.win.ahead ∧ (dropCopied o s).win.fetch = s.win.fetch ∧
    (dropCopied o s).win.posted = s.win.posted ∧ (dropCopied o s).win.mopLast = s.win.mopLast ∧
    (dropCopied o s).win.mopCount = s.win.mopCount ∧ (dropCopied o s).win.patch = s.win.patch ∧
    (dropCopied o s).win.access = s.win.access ∧ (dropCopied o s).win.busData = s.win.busData := by
  unfold dropCopied; split <;> simp

/-- What `endCopyWrite` leaves as it is. -/
@[simp] theorem endCopyWrite_frame (dst : Nat) (data : List HW) (o : Owner) (s : State) :
    (endCopyWrite dst data o s).ports = s.ports ∧ (endCopyWrite dst data o s).tsets = s.tsets ∧
    (endCopyWrite dst data o s).seg = s.seg ∧ (endCopyWrite dst data o s).walker = s.walker ∧
    (endCopyWrite dst data o s).queue = s.queue ∧ (endCopyWrite dst data o s).app = s.app ∧
    (endCopyWrite dst data o s).run = s.run ∧ (endCopyWrite dst data o s).log = s.log ∧
    (endCopyWrite dst data o s).trig = s.trig ∧ (endCopyWrite dst data o s).resetLow = s.resetLow ∧
    (endCopyWrite dst data o s).free = s.free ∧ (endCopyWrite dst data o s).pending = s.pending ∧
    (endCopyWrite dst data o s).mem.ready = s.mem.ready ∧ (endCopyWrite dst data o s).mem.msize = s.mem.msize ∧
    (endCopyWrite dst data o s).mem.initTicks = s.mem.initTicks ∧
    (endCopyWrite dst data o s).mem.zones = s.mem.zones ∧
    (endCopyWrite dst data o s).mem.zonesel = s.mem.zonesel ∧
    (endCopyWrite dst data o s).mem.refint = s.mem.refint ∧
    (endCopyWrite dst data o s).mem.refTimer = s.mem.refTimer ∧
    (endCopyWrite dst data o s).mem.owed = s.mem.owed ∧ (endCopyWrite dst data o s).mem.refmiss = s.mem.refmiss ∧
    (endCopyWrite dst data o s).mem.passover = s.mem.passover ∧
    (endCopyWrite dst data o s).dram.epoch = s.dram.epoch ∧
    (endCopyWrite dst data o s).dram.decayed = s.dram.decayed ∧ (endCopyWrite dst data o s).win.cmd = s.win.cmd ∧
    (endCopyWrite dst data o s).win.carg = s.win.carg ∧ (endCopyWrite dst data o s).win.winerr = s.win.winerr ∧
    (endCopyWrite dst data o s).win.captures = s.win.captures ∧
    (endCopyWrite dst data o s).win.holdings = s.win.holdings ∧
    (endCopyWrite dst data o s).win.waddr = s.win.waddr ∧ (endCopyWrite dst data o s).win.stride = s.win.stride ∧
    (endCopyWrite dst data o s).win.ahead = s.win.ahead ∧ (endCopyWrite dst data o s).win.fetch = s.win.fetch ∧
    (endCopyWrite dst data o s).win.posted = s.win.posted ∧ (endCopyWrite dst data o s).win.patch = s.win.patch ∧
    (endCopyWrite dst data o s).win.busData = s.win.busData ∧
    (endCopyWrite dst data o s).ev.enables = s.ev.enables ∧ (endCopyWrite dst data o s).ev.master = s.ev.master := by
  simp [endCopyWrite]

/-- What `patchMemory` leaves as it is. -/
@[simp] theorem patchMemory_frame (r : PatchReq) (s : State) :
    (patchMemory r s).2.ports = s.ports ∧ (patchMemory r s).2.tsets = s.tsets ∧ (patchMemory r s).2.seg = s.seg ∧
    (patchMemory r s).2.walker = s.walker ∧ (patchMemory r s).2.queue = s.queue ∧ (patchMemory r s).2.app = s.app ∧
    (patchMemory r s).2.run = s.run ∧ (patchMemory r s).2.log = s.log ∧ (patchMemory r s).2.trig = s.trig ∧
    (patchMemory r s).2.mem = s.mem ∧ (patchMemory r s).2.win = s.win ∧ (patchMemory r s).2.ev = s.ev ∧
    (patchMemory r s).2.resetLow = s.resetLow ∧ (patchMemory r s).2.pending = s.pending := by
  simp [patchMemory]

/-- What `startPatch` leaves as it is. -/
@[simp] theorem startPatch_frame (s : State) :
    (startPatch s).ports = s.ports ∧ (startPatch s).tsets = s.tsets ∧ (startPatch s).seg = s.seg ∧
    (startPatch s).walker = s.walker ∧ (startPatch s).queue = s.queue ∧ (startPatch s).app = s.app ∧
    (startPatch s).run = s.run ∧ (startPatch s).log = s.log ∧ (startPatch s).trig = s.trig ∧
    (startPatch s).dram = s.dram ∧ (startPatch s).ev = s.ev ∧ (startPatch s).resetLow = s.resetLow ∧
    (startPatch s).free = s.free ∧ (startPatch s).pending = s.pending ∧ (startPatch s).mem.ready = s.mem.ready ∧
    (startPatch s).mem.msize = s.mem.msize ∧ (startPatch s).mem.initTicks = s.mem.initTicks ∧
    (startPatch s).mem.zones = s.mem.zones ∧ (startPatch s).mem.zonesel = s.mem.zonesel ∧
    (startPatch s).mem.refint = s.mem.refint ∧ (startPatch s).mem.refTimer = s.mem.refTimer ∧
    (startPatch s).mem.owed = s.mem.owed ∧ (startPatch s).mem.refmiss = s.mem.refmiss ∧
    (startPatch s).mem.passover = s.mem.passover ∧ (startPatch s).win.cmd = s.win.cmd ∧
    (startPatch s).win.cmdstat = s.win.cmdstat ∧ (startPatch s).win.cmdres = s.win.cmdres ∧
    (startPatch s).win.carg = s.win.carg ∧ (startPatch s).win.winerr = s.win.winerr ∧
    (startPatch s).win.captures = s.win.captures ∧ (startPatch s).win.holdings = s.win.holdings ∧
    (startPatch s).win.waddr = s.win.waddr ∧ (startPatch s).win.stride = s.win.stride ∧
    (startPatch s).win.posted = s.win.posted ∧ (startPatch s).win.memop = s.win.memop ∧
    (startPatch s).win.mopLast = s.win.mopLast ∧ (startPatch s).win.mopCount = s.win.mopCount ∧
    (startPatch s).win.orphan = s.win.orphan ∧ (startPatch s).win.busData = s.win.busData := by simp [startPatch]

/-- What `endPatch` leaves as it is. -/
@[simp] theorem endPatch_frame (r : PatchReq) (s : State) :
    (endPatch r s).ports = s.ports ∧ (endPatch r s).tsets = s.tsets ∧ (endPatch r s).seg = s.seg ∧
    (endPatch r s).walker = s.walker ∧ (endPatch r s).queue = s.queue ∧ (endPatch r s).app = s.app ∧
    (endPatch r s).run = s.run ∧ (endPatch r s).log = s.log ∧ (endPatch r s).trig = s.trig ∧
    (endPatch r s).ev = s.ev ∧ (endPatch r s).resetLow = s.resetLow ∧ (endPatch r s).pending = s.pending ∧
    (endPatch r s).mem.ready = s.mem.ready ∧ (endPatch r s).mem.msize = s.mem.msize ∧
    (endPatch r s).mem.initTicks = s.mem.initTicks ∧ (endPatch r s).mem.zones = s.mem.zones ∧
    (endPatch r s).mem.zonesel = s.mem.zonesel ∧ (endPatch r s).mem.refint = s.mem.refint ∧
    (endPatch r s).mem.refTimer = s.mem.refTimer ∧ (endPatch r s).mem.owed = s.mem.owed ∧
    (endPatch r s).mem.refmiss = s.mem.refmiss ∧ (endPatch r s).mem.passover = s.mem.passover ∧
    (endPatch r s).win.cmd = s.win.cmd ∧ (endPatch r s).win.carg = s.win.carg ∧
    (endPatch r s).win.winerr = s.win.winerr ∧ (endPatch r s).win.captures = s.win.captures ∧
    (endPatch r s).win.holdings = s.win.holdings ∧ (endPatch r s).win.waddr = s.win.waddr ∧
    (endPatch r s).win.stride = s.win.stride ∧ (endPatch r s).win.ahead = s.win.ahead ∧
    (endPatch r s).win.fetch = s.win.fetch ∧ (endPatch r s).win.posted = s.win.posted ∧
    (endPatch r s).win.memop = s.win.memop ∧ (endPatch r s).win.mopLast = s.win.mopLast ∧
    (endPatch r s).win.mopCount = s.win.mopCount ∧ (endPatch r s).win.orphan = s.win.orphan ∧
    (endPatch r s).win.busData = s.win.busData := by simp [endPatch]


/-! ## Resets -/

/-- What `partialTransfer` leaves as it is. -/
@[simp] theorem partialTransfer_frame (t : Nat) (s : State) :
    (partialTransfer t s).ports = s.ports ∧ (partialTransfer t s).tsets = s.tsets ∧
    (partialTransfer t s).seg = s.seg ∧ (partialTransfer t s).walker = s.walker ∧
    (partialTransfer t s).queue = s.queue ∧ (partialTransfer t s).app = s.app ∧
    (partialTransfer t s).run = s.run ∧ (partialTransfer t s).log = s.log ∧ (partialTransfer t s).trig = s.trig ∧
    (partialTransfer t s).mem = s.mem ∧ (partialTransfer t s).win = s.win ∧ (partialTransfer t s).ev = s.ev ∧
    (partialTransfer t s).resetLow = s.resetLow ∧ (partialTransfer t s).pending = s.pending := by
  unfold partialTransfer; (repeat' split) <;> simp

/-- What `endWriterGrant` leaves as it is. -/
@[simp] theorem endWriterGrant_frame (t : Nat) (s : State) :
    (endWriterGrant t s).ports = s.ports ∧ (endWriterGrant t s).tsets = s.tsets ∧
    (endWriterGrant t s).seg = s.seg ∧ (endWriterGrant t s).walker = s.walker ∧
    (endWriterGrant t s).queue = s.queue ∧ (endWriterGrant t s).app = s.app ∧ (endWriterGrant t s).run = s.run ∧
    (endWriterGrant t s).log = s.log ∧ (endWriterGrant t s).trig = s.trig ∧ (endWriterGrant t s).win = s.win ∧
    (endWriterGrant t s).ev = s.ev ∧ (endWriterGrant t s).resetLow = s.resetLow ∧
    (endWriterGrant t s).pending = s.pending ∧ (endWriterGrant t s).mem.ready = s.mem.ready ∧
    (endWriterGrant t s).mem.msize = s.mem.msize ∧ (endWriterGrant t s).mem.initTicks = s.mem.initTicks ∧
    (endWriterGrant t s).mem.zones = s.mem.zones ∧ (endWriterGrant t s).mem.zonesel = s.mem.zonesel ∧
    (endWriterGrant t s).mem.refint = s.mem.refint ∧ (endWriterGrant t s).mem.refTimer = s.mem.refTimer ∧
    (endWriterGrant t s).mem.owed = s.mem.owed ∧ (endWriterGrant t s).mem.refmiss = s.mem.refmiss ∧
    (endWriterGrant t s).mem.passover = s.mem.passover := by unfold endWriterGrant; split <;> simp

/-- What `softResetWindow` leaves as it is. -/
@[simp] theorem softResetWindow_frame (s : State) :
    (softResetWindow s).ports = s.ports ∧ (softResetWindow s).tsets = s.tsets ∧ (softResetWindow s).seg = s.seg ∧
    (softResetWindow s).walker = s.walker ∧ (softResetWindow s).queue = s.queue ∧
    (softResetWindow s).app = s.app ∧ (softResetWindow s).run = s.run ∧ (softResetWindow s).log = s.log ∧
    (softResetWindow s).trig = s.trig ∧ (softResetWindow s).dram = s.dram ∧ (softResetWindow s).ev = s.ev ∧
    (softResetWindow s).resetLow = s.resetLow ∧ (softResetWindow s).free = s.free ∧
    (softResetWindow s).pending = s.pending ∧ (softResetWindow s).mem.ready = s.mem.ready ∧
    (softResetWindow s).mem.msize = s.mem.msize ∧ (softResetWindow s).mem.initTicks = s.mem.initTicks ∧
    (softResetWindow s).mem.zones = s.mem.zones ∧ (softResetWindow s).mem.zonesel = s.mem.zonesel ∧
    (softResetWindow s).mem.refint = s.mem.refint ∧ (softResetWindow s).mem.refTimer = s.mem.refTimer ∧
    (softResetWindow s).mem.owed = s.mem.owed ∧ (softResetWindow s).mem.refmiss = s.mem.refmiss ∧
    (softResetWindow s).win.cmd = s.win.cmd ∧ (softResetWindow s).win.carg = s.win.carg ∧
    (softResetWindow s).win.captures = s.win.captures ∧ (softResetWindow s).win.holdings = s.win.holdings ∧
    (softResetWindow s).win.waddr = s.win.waddr ∧ (softResetWindow s).win.stride = s.win.stride ∧
    (softResetWindow s).win.mopCount = s.win.mopCount ∧ (softResetWindow s).win.patch = s.win.patch ∧
    (softResetWindow s).win.access = s.win.access ∧ (softResetWindow s).win.busData = s.win.busData := by
  simp [softResetWindow]

/-- What `softResetRun` leaves as it is. -/
@[simp] theorem softResetRun_frame (s : State) :
    (softResetRun s).tsets = s.tsets ∧ (softResetRun s).dram = s.dram ∧ (softResetRun s).win = s.win ∧
    (softResetRun s).resetLow = s.resetLow ∧ (softResetRun s).free = s.free ∧
    (softResetRun s).pending = s.pending ∧ (softResetRun s).ports.cfg = s.ports.cfg ∧
    (softResetRun s).seg.entries = s.seg.entries ∧ (softResetRun s).seg.stage = s.seg.stage ∧
    (softResetRun s).seg.startseg = s.seg.startseg ∧ (softResetRun s).run.bp = s.run.bp ∧
    (softResetRun s).run.armcfg = s.run.armcfg ∧ (softResetRun s).run.starveto = s.run.starveto ∧
    (softResetRun s).run.failPause = s.run.failPause ∧ (softResetRun s).run.faillimit = s.run.faillimit ∧
    (softResetRun s).log.base = s.log.base ∧ (softResetRun s).log.size = s.log.size ∧
    (softResetRun s).log.level = s.log.level ∧ (softResetRun s).log.wp = s.log.wp ∧
    (softResetRun s).log.rp = s.log.rp ∧ (softResetRun s).trig.lines = s.trig.lines ∧
    (softResetRun s).mem.ready = s.mem.ready ∧ (softResetRun s).mem.msize = s.mem.msize ∧
    (softResetRun s).mem.initTicks = s.mem.initTicks ∧ (softResetRun s).mem.zones = s.mem.zones ∧
    (softResetRun s).mem.zonesel = s.mem.zonesel ∧ (softResetRun s).mem.refint = s.mem.refint ∧
    (softResetRun s).mem.refTimer = s.mem.refTimer ∧ (softResetRun s).mem.owed = s.mem.owed ∧
    (softResetRun s).mem.refmiss = s.mem.refmiss ∧ (softResetRun s).mem.passover = s.mem.passover ∧
    (softResetRun s).ev.enables = s.ev.enables ∧ (softResetRun s).ev.master = s.ev.master := by simp [softResetRun]

/-- What `resetN` leaves as it is. -/
@[simp] theorem resetN_frame (t : Nat) (s : State) :
    (resetN t s).pending = s.pending := by simp [resetN]


/-! ## Ticks -/

/-- What `tickPeriod` leaves as it is. -/
@[simp] theorem tickPeriod_frame (s : State) :
    (tickPeriod s).ports = s.ports ∧ (tickPeriod s).tsets = s.tsets ∧ (tickPeriod s).seg = s.seg ∧
    (tickPeriod s).walker = s.walker ∧ (tickPeriod s).queue = s.queue ∧ (tickPeriod s).run = s.run ∧
    (tickPeriod s).log = s.log ∧ (tickPeriod s).trig = s.trig ∧ (tickPeriod s).mem = s.mem ∧
    (tickPeriod s).dram = s.dram ∧ (tickPeriod s).win = s.win ∧ (tickPeriod s).ev = s.ev ∧
    (tickPeriod s).resetLow = s.resetLow ∧ (tickPeriod s).free = s.free ∧ (tickPeriod s).pending = s.pending ∧
    (tickPeriod s).app.stream = s.app.stream ∧ (tickPeriod s).app.skipOnce = s.app.skipOnce ∧
    (tickPeriod s).app.wait = s.app.wait ∧ (tickPeriod s).app.passdone = s.app.passdone ∧
    (tickPeriod s).app.vcount = s.app.vcount ∧ (tickPeriod s).app.failcount = s.app.failcount ∧
    (tickPeriod s).app.firstfail = s.app.firstfail := by simp [tickPeriod]

/-- What `tickWait` leaves as it is. -/
@[simp] theorem tickWait_frame (s : State) :
    (tickWait s).ports = s.ports ∧ (tickWait s).tsets = s.tsets ∧ (tickWait s).seg = s.seg ∧
    (tickWait s).walker = s.walker ∧ (tickWait s).queue = s.queue ∧ (tickWait s).run = s.run ∧
    (tickWait s).log = s.log ∧ (tickWait s).trig = s.trig ∧ (tickWait s).mem = s.mem ∧
    (tickWait s).dram = s.dram ∧ (tickWait s).win = s.win ∧ (tickWait s).ev = s.ev ∧
    (tickWait s).resetLow = s.resetLow ∧ (tickWait s).free = s.free ∧ (tickWait s).pending = s.pending ∧
    (tickWait s).app.stream = s.app.stream ∧ (tickWait s).app.period = s.app.period ∧
    (tickWait s).app.skipOnce = s.app.skipOnce ∧ (tickWait s).app.passdone = s.app.passdone ∧
    (tickWait s).app.vcount = s.app.vcount ∧ (tickWait s).app.failcount = s.app.failcount ∧
    (tickWait s).app.firstfail = s.app.firstfail := by unfold tickWait; split <;> simp

/-- What `tickStarve` leaves as it is. -/
@[simp] theorem tickStarve_frame (s : State) :
    (tickStarve s).ports = s.ports ∧ (tickStarve s).tsets = s.tsets ∧ (tickStarve s).seg = s.seg ∧
    (tickStarve s).walker = s.walker ∧ (tickStarve s).queue = s.queue ∧ (tickStarve s).app = s.app ∧
    (tickStarve s).log = s.log ∧ (tickStarve s).trig = s.trig ∧ (tickStarve s).mem = s.mem ∧
    (tickStarve s).dram = s.dram ∧ (tickStarve s).win = s.win ∧ (tickStarve s).ev = s.ev ∧
    (tickStarve s).resetLow = s.resetLow ∧ (tickStarve s).free = s.free ∧ (tickStarve s).pending = s.pending ∧
    (tickStarve s).run.state = s.run.state ∧ (tickStarve s).run.cause = s.run.cause ∧
    (tickStarve s).run.suspended = s.run.suspended ∧ (tickStarve s).run.fault = s.run.fault ∧
    (tickStarve s).run.bp = s.run.bp ∧ (tickStarve s).run.armcfg = s.run.armcfg ∧
    (tickStarve s).run.starveto = s.run.starveto ∧ (tickStarve s).run.failPause = s.run.failPause ∧
    (tickStarve s).run.faillimit = s.run.faillimit ∧ (tickStarve s).run.stopReq = s.run.stopReq ∧
    (tickStarve s).run.pauseFail = s.run.pauseFail ∧ (tickStarve s).run.pauseHost = s.run.pauseHost ∧
    (tickStarve s).run.pauseStep = s.run.pauseStep ∧ (tickStarve s).run.stepReq = s.run.stepReq ∧
    (tickStarve s).run.drainAborted = s.run.drainAborted := by unfold tickStarve; split <;> simp

/-- What `tickMemory` leaves as it is. -/
@[simp] theorem tickMemory_frame (s : State) :
    (tickMemory s).ports = s.ports ∧ (tickMemory s).tsets = s.tsets ∧ (tickMemory s).seg = s.seg ∧
    (tickMemory s).walker = s.walker ∧ (tickMemory s).queue = s.queue ∧ (tickMemory s).app = s.app ∧
    (tickMemory s).run = s.run ∧ (tickMemory s).log = s.log ∧ (tickMemory s).trig = s.trig ∧
    (tickMemory s).dram = s.dram ∧ (tickMemory s).win = s.win ∧ (tickMemory s).ev = s.ev ∧
    (tickMemory s).resetLow = s.resetLow ∧ (tickMemory s).free = s.free ∧ (tickMemory s).pending = s.pending ∧
    (tickMemory s).mem.ready = s.mem.ready ∧ (tickMemory s).mem.msize = s.mem.msize ∧
    (tickMemory s).mem.zones = s.mem.zones ∧ (tickMemory s).mem.zonesel = s.mem.zonesel ∧
    (tickMemory s).mem.refint = s.mem.refint ∧ (tickMemory s).mem.owed = s.mem.owed ∧
    (tickMemory s).mem.refmiss = s.mem.refmiss ∧ (tickMemory s).mem.passover = s.mem.passover ∧
    (tickMemory s).mem.grant = s.mem.grant := by unfold tickMemory; (repeat' split) <;> simp

/-- What `tick` leaves as it is. -/
@[simp] theorem tick_frame (s : State) :
    (tick s).ports = s.ports ∧ (tick s).tsets = s.tsets ∧ (tick s).seg = s.seg ∧ (tick s).walker = s.walker ∧
    (tick s).queue = s.queue ∧ (tick s).log = s.log ∧ (tick s).trig = s.trig ∧ (tick s).dram = s.dram ∧
    (tick s).win = s.win ∧ (tick s).ev = s.ev ∧ (tick s).resetLow = s.resetLow ∧ (tick s).free = s.free ∧
    (tick s).pending = s.pending ∧ (tick s).app.stream = s.app.stream ∧ (tick s).app.skipOnce = s.app.skipOnce ∧
    (tick s).app.passdone = s.app.passdone ∧ (tick s).app.vcount = s.app.vcount ∧
    (tick s).app.failcount = s.app.failcount ∧ (tick s).app.firstfail = s.app.firstfail ∧
    (tick s).run.state = s.run.state ∧ (tick s).run.cause = s.run.cause ∧
    (tick s).run.suspended = s.run.suspended ∧ (tick s).run.fault = s.run.fault ∧ (tick s).run.bp = s.run.bp ∧
    (tick s).run.armcfg = s.run.armcfg ∧ (tick s).run.starveto = s.run.starveto ∧
    (tick s).run.failPause = s.run.failPause ∧ (tick s).run.faillimit = s.run.faillimit ∧
    (tick s).run.stopReq = s.run.stopReq ∧ (tick s).run.pauseFail = s.run.pauseFail ∧
    (tick s).run.pauseHost = s.run.pauseHost ∧ (tick s).run.pauseStep = s.run.pauseStep ∧
    (tick s).run.stepReq = s.run.stepReq ∧ (tick s).run.drainAborted = s.run.drainAborted ∧
    (tick s).mem.ready = s.mem.ready ∧ (tick s).mem.msize = s.mem.msize ∧ (tick s).mem.zones = s.mem.zones ∧
    (tick s).mem.zonesel = s.mem.zonesel ∧ (tick s).mem.refint = s.mem.refint ∧ (tick s).mem.owed = s.mem.owed ∧
    (tick s).mem.refmiss = s.mem.refmiss ∧ (tick s).mem.passover = s.mem.passover ∧
    (tick s).mem.grant = s.mem.grant := by unfold tick; split <;> simp

end Sys2Proof.Machine
end

