-- ==== Sys2Proof/Tests/Slice0.lean ====
section
/-! SUPPORT. Tests by evaluation: the ill-formed terms that the check refuses, worked examples of the manual, one small
step for every family of rows, and a witness for the hypotheses of every statement that has some, at the boundary values
of its clauses. -/

namespace Sys2Proof.Machine

set_option Elab.async false

/-! ## Helpers -/

/-- A row answers a next state with a property. -/
def Tests.after (r : Result) (p : State → Bool) : Bool :=
  match r with
  | .next t => p t
  | _ => false

/-- A row is a refused access. -/
def Tests.refusedAt (r : Result) (code : Status) (offset : BitVec 7) : Bool :=
  Tests.after r fun t => t.win.winerr == ⟨code, offset⟩ && t.ev.flags.getLsbD 11

/-- A row is a refused command. -/
def Tests.refusedCmd (r : Result) (code : Status) : Bool :=
  Tests.after r fun t => t.win.cmdstat == code && t.ev.flags.getLsbD 11

/-- READY, with a VECTOR zone at 0x100, a LOG zone at 0x1000, a DATA zone at 0x2000 with W_RUN, and the ring at 0x1000. -/
def Tests.base : State :=
  { State.reset with
    mem.ready := true
    mem.zones := (((State.reset.mem.zones.set 0 ⟨0x100, 0x1FF, .vector, false, true⟩).set 1
      ⟨0x1000, 0x1FFF, .log, false, true⟩).set 2 ⟨0x2000, 0x2FFF, .data, true, true⟩)
    log.base := 0x1000 }

/-- The same in a sequencer state. -/
def Tests.inState (st : SeqState) : State := { Tests.base with run.state := st }

/-- A vector with port A present, driving, with timing PER 10, DRV 2, STB 6. -/
def Tests.vector : DecodedVector :=
  { tset := 0, timing := ⟨10, 2, 6⟩, mark := false, capture := false
    parts := #v[some ⟨0xFFFF, 0x5A5A, 0⟩, none, none, none] }

/-- A vector that expects 0 at every pin of port A. -/
def Tests.compared : DecodedVector := { Tests.vector with parts := #v[some ⟨0, 0, 0xFFFF⟩, none, none, none] }

/-- A period of a vector, with its drive edge and strobe taken or not. -/
def Tests.period (v : DecodedVector) (driven strobed : Bool) : Period :=
  { vec := v, tags := ⟨0, 0, 0, 0⟩, endOfPass := true, vnum := 0, tick := 0, driven := driven, strobed := strobed }

/-- STREAMING with a period in progress and port A enabled. -/
def Tests.playing (p : Period) : State :=
  { Tests.inState .running with
    app.stream := .streaming, app.period := some p
    ports.cfg := Tests.base.ports.cfg.set 0 ⟨true, .w4, .eq, .hiz⟩ }

/-- A ready entry of two records at 0x100, repeated twice, then the end of the chain. -/
def Tests.entry : SegImage := #v[0x100, 0, 2, 2, 0x7F7F, 0, 1, 0, 0, 0, 0, 0]

/-- The walker WALKING in `img` as entry 3, with a step next. -/
def Tests.walking (img : SegImage) (next : WalkStep) : State :=
  { Tests.inState .running with
    seg.entries := Tests.base.seg.entries.set 3 img
    walker := { Walker.stoppedState with st := .walking, cur := some ⟨3, img⟩, next := next, tags := ⟨3, 0, 0, 0⟩
                                         fetchAddr := 0x100 } }

/-- A MATCH wait on port A for level 1 at pin 0. -/
def Tests.waitItem (skip : Bool) : WaitItem :=
  { kind := .levels, line := 0, mport := 0, mexp := 1, mcare := 1, wtset := 0, timing := ⟨10, 2, 6⟩, timeout := 1
    skip := skip }

/-- The wait being made. -/
def Tests.waiting (w : WaitItem) (sampled : Bool) : State :=
  { Tests.inState .waiting with
    run.cause := w.kind.cause
    app.wait := some { item := w, tags := ⟨3, 0, 0, 0⟩, remaining := w.timeout, tick := 0, sampled := sampled,
                       observed := 0, mismatch := 0 } }

/-- A FAIL record with one port. -/
def Tests.record : LogRecord :=
  { kind := .fail, mask := 1, seq := 0, tags := ⟨0, 0, 0, 0⟩, tset := 0, vnum := 0, body := [0x8000, 0x1234] }

/-- The window engine in the grant. -/
def Tests.granted (u : WinUnit) : State := { Tests.base with mem.grant := some (.window u) }

/-! ## Ill-formed terms -/

/-- ILLEGAL_CMD with an assigned code is no row; with an unassigned one it is. -/
theorem test_illegalCmd_wellFormed :
    (Instr.illegalCmd 0x01).wellFormed = false ∧ (Instr.illegalCmd 0x5A).wellFormed = false ∧
    (Instr.illegalCmd 0x00).wellFormed = true ∧ (Instr.illegalCmd 0x08).wellFormed = true := by decide

/-- REGISTER_WRITE of an offset that another row covers is no row; CARG0, a read-only offset and an unassigned one are. -/
theorem test_registerWrite_wellFormed :
    (Instr.registerWrite 0x02 0).wellFormed = false ∧ (Instr.registerWrite 0x12 0).wellFormed = false ∧
    (Instr.registerWrite 0x7B 0).wellFormed = false ∧ (Instr.registerWrite 0x05 0).wellFormed = true ∧
    (Instr.registerWrite 0x00 0).wellFormed = true ∧ (Instr.registerWrite 0x7F 0).wellFormed = true := by decide

/-- No word spells a command, and withFetchWord leaves the state. -/
theorem test_noWord : decodeTableWord 16 0x0001 = none ∧ State.reset.withFetchWord 16 1 = State.reset := ⟨rfl, rfl⟩

/-! ## Memory -/

/-- Writes at rising, falling and equal addresses keep the canonical form and read back. -/
theorem test_memory :
    let m := ((Memory.write [] 5 1).write 3 2).write 5 7
    m = [(3, 2), (5, 7)] ∧ m.wf = true ∧ m.read? 5 = some 7 ∧ m.read? 4 = none ∧
    Memory.wf [(5, 1), (3, 2)] = false := by decide

/-! ## Worked values of the manual -/

/-- MODOP INC over width 4: every lane on its own, without a carry between lanes. -/
theorem test_modifier_inc :
    modifyData 1 2 4 1 ⟨0xFFFF, 0x0FF9, 0⟩ = 0x100A#16 ∧ modifyData 2 2 4 1 ⟨0xFFFF, 0x100A, 0⟩ = 0x0FF9#16 ∧
    modifyData 5 2 16 15 ⟨0xFFFF, 1, 0⟩ = 0x8000#16 := by decide

/-- Lanes of width 4: lane 0 is the high nibble; a signed 0xC is −4. -/
theorem test_lanes : laneValue 0xC5A3 4 0 = 0xC ∧ laneSigned 4 0xC = -4 ∧ laneValue 0xC5A3 4 3 = 3 ∧
    laneValue 0xC5A3 16 0 = 0xC5A3 ∧ laneValue 0xC5A3 1 15 = 1 := by decide

/-- A lane-result word lists failing lanes from bit 15 down. -/
theorem test_laneResult :
    laneResult ⟨true, .w4, .ule, .hiz⟩ ⟨0, 0x5555, 0xFFFF⟩ 0x6545 = 0x8000#16 ∧
    laneResult ⟨true, .w1, .eq, .hiz⟩ ⟨0, 0x5555, 0xFFFF⟩ 0x5554 = 0x0001#16 ∧
    laneResult ⟨true, .w16, .sge, .hiz⟩ ⟨0, 0x0000, 0xFFFF⟩ 0x8000 = 0x8000#16 := by decide

/-! ## Witnesses: the machine and its invariants -/

/-- A queue with a command in front, and an empty one. -/
theorem witness_step :
    ({ Tests.base with pending := [.clear, .start] } : State).pending = Instr.clear :: [.start] ∧
    Tests.base.pending = [] := ⟨rfl, rfl⟩

/-- A step from the base state answers a next state. -/
theorem witness_step_next : ∃ t, step Tests.base = .next t := ⟨_, rfl⟩

/-- The base state meets the bounds, the zones' agreement and the fault code's. -/
theorem witness_invariants_counts :
    MemoryCanonical Tests.base ∧ CountsInRange Tests.base ∧ ZonesDisjoint Tests.base ∧ FaultedOnlyWithCode Tests.base := by
  refine ⟨by unfold MemoryCanonical; decide +kernel, ⟨by decide +kernel, by decide +kernel, by decide +kernel, by decide +kernel,
    by decide +kernel, by decide +kernel, ?_, ?_, ?_⟩, by unfold ZonesDisjoint; decide +kernel, ?_, ?_, ?_⟩
  · intro f h; exact absurd h (by simp [Tests.base, State.reset, State.porWith, Window.por])
  · intro a n live h; exact absurd h (by simp [Tests.base, State.reset, State.porWith, MemCtl.por])
  · intro ws h; exact absurd h (by simp [Tests.base, State.reset, State.porWith, MemCtl.por])
  · intro h; exact absurd h (by decide +kernel)
  · intro h; exact absurd h (by decide +kernel)
  · intro t h; exact absurd h (by simp [Tests.base, State.reset, State.porWith])

/-- The base state meets the queue's bound, with no SKIP wait about. -/
theorem witness_invariants_queue : QueueBounded Tests.base :=
  ⟨by decide +kernel, fun _ => by decide +kernel, fun _ => by decide +kernel,
   fun h => absurd h (by decide +kernel)⟩

/-- A walker in STALL_WAIT behind the SKIP wait that ends its queue. -/
theorem witness_invariants_stallWait :
    QueueBounded { Tests.walking Tests.entry .fetch with
      walker.st := .stallWait, queue := [.endChain Tags.zero, .wait (Tests.waitItem true) ⟨3, 0, 0, 0⟩] } := by
  refine ⟨by decide +kernel, fun h => absurd h (by simp), fun h => absurd rfl h, fun _ => Or.inr ⟨rfl, ?_⟩⟩
  exact ⟨[.endChain Tags.zero], _, _, rfl, rfl, rfl⟩

/-- A state that is playing meets the standby agreement, with port A enabled and the others in standby. -/
theorem witness_invariants_standby : StandbyPinsReceive (Tests.playing (Tests.period Tests.vector true false)) := by
  refine ⟨fun h => absurd h (by decide +kernel), by decide +kernel, ?_, ?_⟩
  · intro p hp
    have : p = Tests.period Tests.vector true false := by simpa [Tests.playing] using hp.symm
    subst this
    unfold portsEnabled
    decide +kernel
  · intro v t e h; exact absurd h (by simp [Tests.playing, Tests.inState, Tests.base, State.reset, State.porWith])

/-- A record being written fits the ring. -/
theorem witness_invariants_writer :
    WriterHasRoom { Tests.inState .running with log.fifo := [Tests.record], mem.grant := some .writer } := by
  refine ⟨fun h => absurd h (by decide +kernel), by unfold RingInRange; decide +kernel, ?_,
    fun h => absurd h (by decide +kernel), fun _ => rfl, fun h => absurd h (by decide +kernel),
    fun _ => ⟨Tests.record, [], rfl, by decide +kernel⟩⟩
  intro r hr hk
  have : r = Tests.record := by simpa using hr
  subst this
  exact absurd hk (by decide)

/-- RESET_N low with everything at its reset value. -/
theorem witness_invariants_reset : ResetHolds { State.reset with resetLow := true } :=
  fun _ => ⟨rfl, rfl, rfl, rfl, rfl, rfl, rfl, rfl, rfl, rfl, rfl, rfl, Or.inl rfl⟩

/-- Ticks with no event due: each counter at work, and the settling interval at its end. -/
theorem witness_ticks :
    (tick (Tests.playing { Tests.period Tests.vector true false with tick := 5 })).app.period.map (·.tick) = some 6 ∧
    (tick (Tests.waiting (Tests.waitItem false) false)).app.wait.map (·.tick) = some 1 ∧
    (tick { Tests.inState .waiting with run.cause := .notReady, run.starve := some 7 }).run.starve = some 8 ∧
    (tick { Tests.inState .paused with run.starve := some 7 }).run.starve = some 7 ∧
    (tick { Tests.base with mem.refTimer := 1559 }).mem.refTimer = 1560 ∧
    (tick { State.reset with mem.initTicks := 39999 }).mem.initTicks = 40000 ∧
    (tick { State.reset with mem.initTicks := 40000 }).mem.initTicks = 40000 ∧
    (tick { State.reset with resetLow := true }).mem.initTicks = 0 := by decide +kernel

/-- Each timed event, at the tick at which it is due, holds time. -/
theorem witness_eventDue :
    let held := fun s : State => tick s = s
    held (Tests.playing { Tests.period Tests.vector false false with tick := 2 }) ∧
    held (Tests.playing { Tests.period Tests.vector true false with tick := 6 }) ∧
    held (Tests.playing { Tests.period Tests.vector true true with tick := 10 }) ∧
    held { Tests.waiting (Tests.waitItem false) false with
      app.wait := some ⟨Tests.waitItem false, ⟨3, 0, 0, 0⟩, 1, 6, false, 0, 0⟩ } ∧
    held { Tests.waiting (Tests.waitItem false) true with
      app.wait := some ⟨Tests.waitItem false, ⟨3, 0, 0, 0⟩, 1, 10, true, 0, 0⟩ } ∧
    held { Tests.inState .waiting with run.cause := .notReady, run.starveto := 1, run.starve := some 65536 } ∧
    held { Tests.base with mem.refTimer := 1560 } := by decide +kernel

/-! ## Witnesses: the arbiter, memory and lanes -/

/-- The walker's request at the last address of its zone and past it; the writer in each of its states, with a head record
of 11 halfwords at a room of 11 and of 10. -/
theorem witness_requests :
    let w := Tests.walking Tests.entry .fetch
    let l := fun wp => { Tests.base with log.fifo := [Tests.record], log.wp := wp }
    walkerRequest { w with walker.fetchAddr := 0x1FF } = true ∧ walkerRequest { w with walker.fetchAddr := 0x200 } = false ∧
    RingInRange (l 52) ∧ writerState Tests.base = .empty ∧ writerState (l 52) = .requesting ∧ writerState (l 53) = .noRoom ∧
    writerState { l 53 with mem.grant := some .writer } = .writing := by
  unfold RingInRange; decide +kernel

/-- The unit the window engine requests: each kind, with the bursts cut by 8 and by the remaining length. -/
theorem witness_windowWork :
    let s := { Tests.base with win.mopCount := 8 }
    windowWork { s with win.orphan := some ⟨5, [1], true⟩, win.posted := [⟨0x2000, 1⟩] } =
      some (.copyWrite 5 [1] (.orphan true)) ∧
    windowWork { s with win.patch := some ⟨5, 1, 2⟩ } = some (.patch ⟨5, 1, 2⟩) ∧
    windowWork { s with win.posted := List.replicate 8 ⟨0x2000, 1⟩ } = some (.drain (List.replicate 8 ⟨0x2000, 1⟩) true) ∧
    windowWork { s with win.memop := .fill 0x2000 17 1 } = some (.fill 0x2008 8 1 .live) ∧
    windowWork { s with win.memop := .fill 0x2000 9 1 } = some (.fill 0x2008 1 1 .live) ∧
    windowWork { s with win.memop := .copy 0x2000 0x2100 16 none } = some (.copyRead 0x2008 0x2108 8 .live) ∧
    windowWork { s with win.memop := .copy 0x2000 0x2100 16 (some [7]) } = some (.copyWrite 0x2108 [7] .live) ∧
    windowWork { s with win.fetch := some ⟨5, 4⟩ } = some (.fetch 5 4 true) ∧ windowWork s = none := by decide +kernel

/-- A range that ends at its zone's LIMIT, one that passes it, and ranges of the wrong kind or in no zone. -/
theorem witness_ranges :
    rangeInKind Tests.base .vector 0x100 256 = true ∧ rangeZone Tests.base 0x100 257 = none ∧
    rangeInKind Tests.base .log 0x100 1 = false ∧ rangeZone Tests.base 0xFF 1 = none ∧
    rangeZone Tests.base 0x1FFFFFF 2 = none := by decide +kernel

/-- What status registers read: a fault being drained, a walker stalled on entry 63, and the other fields at their ends. -/
theorem witness_registerReads :
    let rd := fun (s : State) (o : BitVec 7) => readRegister s (Vector.replicate 4 0x1234) 0x5 o
    rd { Tests.inState .stopping with run.cause := .fault, run.drainAborted := true } 0x18 = some 0x1065 ∧
    rd { Tests.inState .paused with run.suspended := some .levels, walker.st := .done } 0x18 = some 0x0B04 ∧
    rd { Tests.base with walker.st := .stallReady, walker.pend := some 63 } 0x19 = some 0x3F00 ∧
    rd { Tests.inState .stopping with log.fifo := List.replicate 16 Tests.record } 0x72 = some 0x00D0 ∧
    rd { Tests.base with mem.owed := 8, mem.passover := 16, mem.refmiss := true, mem.grant := some .writer } 0x7B =
      some 0x70C1 ∧
    rd { Tests.base with win.posted := List.replicate 8 ⟨0, 0⟩, win.mopLast := .abandoned } 0x14 = some 0x008C ∧
    rd { Tests.base with win.winerr := ⟨.noReg, 0x7F⟩ } 0x0B = some 0x7F0C ∧
    rd { Tests.base with seg.entries := Tests.base.seg.entries.set 63 Tests.entry } 0x4F = some 0x8000 ∧
    rd Tests.base 0x5B = some 0x1234 ∧ rd Tests.base 0x62 = some 5 ∧ rd Tests.base 0x7F = some 0 ∧
    rd { Tests.base with resetLow := true } 0x58 = none := by decide +kernel

/-- An entry in use as the current one, one named on the loop stack, and one that is not. -/
theorem witness_inUse :
    let s := { Tests.walking Tests.entry .fetch with walker.stack := [⟨5, 1, 0⟩] }
    inUse s 3 = true ∧ inUse s 5 = true ∧ inUse s 0 = false := by decide +kernel

/-- A decision is due with requests at several ranks: a full owed count, a passed-over window, a hungry walker. -/
theorem witness_arbiter :
    (arbitrate { Tests.base with mem.owed := 8, win.posted := [⟨0x2000, 1⟩] }).mem.grant = some .refresh ∧
    (arbitrate { Tests.walking Tests.entry .fetch with mem.passover := 16, win.posted := [⟨0x2000, 1⟩] }).mem.grant =
      some (.window (.drain [⟨0x2000, 1⟩] true)) ∧
    (arbitrate { Tests.walking Tests.entry .fetch with win.posted := [⟨0x2000, 1⟩] }).mem.grant =
      some (.walker true) ∧
    (arbitrate { Tests.walking Tests.entry .fetch with win.posted := [⟨0x2000, 1⟩] }).mem.passover = 1 ∧
    (arbitrate { Tests.base with mem.owed := 1 }).mem.grant = some .refresh ∧
    (arbitrate Tests.base).mem.grant = none := by decide +kernel

/-- A refresh is missed at 8 owed and not at 7; RESET_N is high and the controller READY. -/
theorem witness_refresh :
    ({ Tests.base with mem.owed := 8 } : State).mem.ready = true ∧ Tests.base.resetLow = false ∧
    Tests.after (exec .refreshTimerExpiry { Tests.base with mem.owed := 8 })
      (fun t => t.mem.refmiss && t.dram.decayed && t.ev.flags.getLsbD 13 && t.mem.owed == 8) = true ∧
    Tests.after (exec .refreshTimerExpiry { Tests.base with mem.owed := 8, resetLow := true })
      (fun t => t.mem.refmiss && t.dram.decayed && t.ev.flags == 0) = true ∧
    Tests.after (exec .refreshTimerExpiry { Tests.base with mem.owed := 6 })
      (fun t => !t.mem.refmiss && t.mem.owed == 7) = true := by decide +kernel

/-- Both ends of what MemoryReadsGiveTheLastWrite covers: the first and last written address, and those beside them. -/
theorem witness_memoryReads :
    let s := writeHalves 5 [1, 2, 3] Tests.base
    s.dram.cells.read? 5 = some 1 ∧ s.dram.cells.read? 7 = some 3 ∧ s.dram.cells.read? 4 = none ∧
    s.dram.cells.read? 8 = none ∧ Tests.base.dram.decayed = false := by decide +kernel

/-- The four widths at their first and last lanes. -/
theorem witness_widths : ∀ w ∈ [1, 4, 8, 16], Claims.isWidth w ∧ 16 / w - 1 < 16 / w := by
  unfold Claims.isWidth; decide

/-- A lane of each class under a magnitude kind, the last lane of width 8 among them. -/
theorem witness_laneClass :
    laneClass 8 ⟨0xFF00, 0, 0x00FF⟩ 1 = .compared ∧ laneClass 8 ⟨0xFF00, 0, 0x00FF⟩ 0 = .notCompared ∧
    laneClass 8 ⟨0, 0, 0x00FF⟩ 0 = .notCompared ∧ laneClass 8 ⟨0xF000, 0, 0x0100⟩ 0 = .mixed ∧
    (CompareKind.ule ≠ .eq) ∧ 1 < 16 / Width.w8.pins := by decide

/-- The modifier acts in iteration 1 on port A with MODTGT DRIVE, and not in iteration 0; pin 15 and pin 0. -/
theorem witness_modifier :
    let e : SegImage := (Vector.replicate 12 0).set 11 0x0021
    (segModports e).getLsbD 0 = true ∧ segModop e ≠ 0 ∧ segModtgt e ≠ 3 ∧
    modifyPart e ⟨true, .w16, .eq, .hiz⟩ 0 1 ⟨0xFFFF, 0x7FFF, 0⟩ = ⟨0xFFFF, 0x8000, 0⟩ ∧
    modifyPart e ⟨true, .w16, .eq, .hiz⟩ 0 1 ⟨0x8000, 0x7FFF, 0⟩ = ⟨0x8000, 0xFFFF, 0⟩ ∧
    modifyPart e ⟨true, .w16, .eq, .hiz⟩ 0 0 ⟨0xFFFF, 0x7FFF, 0⟩ = ⟨0xFFFF, 0x7FFF, 0⟩ := by decide

/-! ## Witnesses: run commands -/

/-- START and ARM are accepted from entry 0 and from entry 63, and refused at each check in its turn. -/
theorem witness_start :
    busFree Tests.base = true ∧ Tests.base.run.state = .idle ∧ Tests.base.mem.ready = true ∧
    Tests.base.win.posted = [] ∧ Tests.base.win.memop = .idle ∧
    rangeInKind Tests.base .log Tests.base.log.base.toNat Tests.base.log.size.toNat = true ∧
    Tests.base.trig.lines[Tests.base.run.armcfg].mode = .input ∧
    Tests.after (exec .start { Tests.base with seg.startseg := 63 })
      (fun t => t.run.state == .running && t.walker.next == .arrive 63 false) = true ∧
    Tests.after (exec .arm Tests.base) (fun t => t.run.state == .armed && t.app.stream == .held) = true := by
  decide +kernel

/-- Each start check refuses in its turn. -/
theorem witness_startChecks :
    Tests.refusedCmd (exec .start (Tests.inState .paused)) .wrongState = true ∧
    Tests.refusedCmd (exec .start State.reset) .memNotReady = true ∧
    Tests.refusedCmd (exec .arm { Tests.base with win.posted := [⟨0x2000, 1⟩] }) .wbufPending = true ∧
    Tests.refusedCmd (exec .start { Tests.base with win.memop := .fill 0x2000 4 1 }) .memopBusy = true ∧
    Tests.refusedCmd (exec .start { Tests.base with log.base := 0x1FC1 }) .badLog = true ∧
    Tests.refusedCmd (exec .start { Tests.base with seg.startseg := 64 }) .badArg = true ∧
    Tests.refusedCmd (exec .arm { Tests.base with trig.lines := Vector.replicate 4 ⟨.outRun, .rise⟩ }) .badArg =
      true := by decide +kernel

/-- PAUSE in each state it distinguishes. -/
theorem witness_pause :
    Tests.after (exec .pause (Tests.playing (Tests.period Tests.vector true false)))
      (fun t => t.run.pauseHost && t.run.state == .running) = true ∧
    Tests.after (exec .pause { Tests.inState .running with app.stream := .priming })
      (fun t => t.run.state == .paused && t.run.cause == .host) = true ∧
    Tests.after (exec .pause (Tests.waiting (Tests.waitItem false) false))
      (fun t => t.run.state == .paused && t.run.suspended == some .levels) = true ∧
    Tests.refusedCmd (exec .pause (Tests.inState .armed)) .wrongState = true := by decide +kernel

/-- RESUME and STEP from each kind of pause. -/
theorem witness_resume :
    Tests.after (exec .resume { Tests.walking Tests.entry .fetch with run.state := .paused })
      (fun t => t.run.state == .running && t.app.stream == .priming) = true ∧
    Tests.after (exec .step
        { Tests.waiting (Tests.waitItem false) true with run.state := .paused, run.suspended := some .levels })
      (fun t => t.run.state == .waiting && t.run.cause == .levels && t.run.stepReq) = true ∧
    Tests.after (exec .resume { Tests.inState .paused with
        run.suspended := some .notReady, walker.st := .stallReady, run.starve := some 5 })
      (fun t => t.run.state == .waiting && t.run.starve == some 5) = true ∧
    Tests.after (exec .resume { Tests.walking Tests.entry .fetch with
        run.state := .paused, run.suspended := some .notReady })
      (fun t => t.run.state == .running && t.app.stream == .priming) = true ∧
    Tests.refusedCmd (exec .step (Tests.inState .running)) .wrongState = true := by decide +kernel

/-- CLEAR and ABORT in each state they distinguish. -/
theorem witness_clearAbort :
    Tests.after (exec .clear (Tests.inState .ended)) (fun t => t.run.state == .idle) = true ∧
    Tests.after (exec .clear (Tests.inState .faulted)) (fun t => t.run.state == .idle) = true ∧
    Tests.refusedCmd (exec .clear Tests.base) .wrongState = true ∧
    Tests.after (exec .abort (Tests.inState .armed))
      (fun t => t.run.state == .stopping && t.run.cause == .abort && t.log.fifo.length == 1) = true ∧
    Tests.after (exec .abort { Tests.inState .stopping with log.fifo := [Tests.record, Tests.record] })
      (fun t => t.run.state == .ended && t.log.dropcount == 2 && t.log.fifo == []) = true ∧
    Tests.after (exec .abort { Tests.inState .stopping with
        log.fifo := [Tests.record, Tests.record], mem.grant := some .writer })
      (fun t => t.run.state == .stopping && t.run.drainAborted && t.log.fifo.length == 1) = true ∧
    Tests.after (exec .abort { Tests.inState .stopping with run.drainAborted := true })
      (fun t => t.run.state == .stopping) = true ∧
    Tests.refusedCmd (exec .abort (Tests.inState .ended)) .wrongState = true := by decide +kernel

/-- SOFT_RESET with a writer grant that has written 2 halfwords, and with a COPY between its two grants. -/
theorem witness_softReset :
    Tests.after (exec (.softReset 2) { Tests.inState .running with
        log.fifo := [Tests.record], mem.grant := some .writer, ev.flags := 0x3FFF })
      (fun t => t.run.state == .idle && t.log.fifo == [] && t.dram.cells.length == 2 && t.ev.flags == 0) = true ∧
    Tests.after (exec (.softReset 0) { Tests.base with win.memop := .copy 0x2000 0x2100 8 (some [1, 2]) })
      (fun t => t.win.mopLast == .cancelled && t.win.orphan == some ⟨0x2100, [1, 2], true⟩) = true := by decide +kernel

/-- The window's grant in progress at a SOFT_RESET runs on: each unit, and a burst that an earlier one left; the write grant
of a burst in progress is not left a second time. -/
theorem witness_softResetGrants :
    let left := fun u => (Tests.after (exec (.softReset 0) (Tests.granted u)) fun t =>
      t.mem.grant == Claims.grantLeft (some (.window u)) && t.mem.grant != some (.window u)) = true
    left (.drain [⟨0x2000, 1⟩] true) ∧ left (.fetch 0x2000 4 true) ∧ left (.fill 0x2000 8 5 .live) ∧
    left (.copyRead 0x2000 0x2100 8 .live) ∧ left (.copyWrite 0x2100 [1, 2] .live) ∧
    Tests.after (exec (.softReset 0) (Tests.granted (.fill 0x2000 8 5 (.orphan false))))
      (fun t => t.mem.grant == some (.window (.fill 0x2000 8 5 (.orphan false)))) = true ∧
    Tests.after (exec (.softReset 0) { Tests.base with mem.grant := some .refresh })
      (fun t => t.mem.grant == some .refresh) = true ∧
    Tests.after (exec (.softReset 0) { Tests.granted (.copyWrite 0x2100 [1, 2] .live) with
        win.memop := .copy 0x2000 0x2100 8 (some [1, 2]) })
      (fun t => t.win.orphan == none && t.mem.grant == some (.window (.copyWrite 0x2100 [1, 2] (.orphan true)))) =
      true := by decide +kernel

/-- A FILL begins while bursts that a SOFT_RESET left are granted and still to write: neither is counted any more. -/
theorem witness_fillUncounts :
    let s := fun u => { Tests.granted u with
      win.carg := #v[0x2000, 0, 0x0010, 0, 0x00AA, 0], win.orphan := some ⟨0x2100, [1], true⟩ }
    let begun := fun u v => (Tests.after (exec .fill (s u)) fun t =>
      t.win.memop == .fill 0x2000 16 0xAA && t.mem.grant == some (.window v) &&
        t.win.orphan == some ⟨0x2100, [1], false⟩) = true
    begun (.fill 0x2000 8 5 (.orphan true)) (.fill 0x2000 8 5 (.orphan false)) ∧
    begun (.copyRead 0x2000 0x2100 8 (.orphan true)) (.copyRead 0x2000 0x2100 8 (.orphan false)) ∧
    begun (.copyWrite 0x2100 [1] (.orphan true)) (.copyWrite 0x2100 [1] (.orphan false)) ∧
    begun (.drain [⟨0x2000, 1⟩] false) (.drain [⟨0x2000, 1⟩] false) := by decide +kernel

/-! ## Witnesses: register writes -/

/-- Unassigned codes and offsets; CARG5 and the last staging register. -/
theorem witness_unassigned :
    Tests.refusedCmd (exec (.illegalCmd 0x08) Tests.base) .illegalCmd = true ∧
    Tests.refusedAt (exec (.registerWrite 0x00 5) Tests.base) .noReg 0x00 = true ∧
    Tests.refusedAt (exec (.registerWrite 0x0B 5) Tests.base) .noReg 0x0B = true ∧
    Tests.after (exec (.registerWrite 0x0A 7) Tests.base) (fun t => t.win.carg[5] == 7) = true ∧
    Tests.after (exec (.segstageWrite 11 0xFFFF) Tests.base) (fun t => t.seg.stage[11] == 0xFFFF) = true := by
  decide +kernel

/-- The lock in each of the five states of a run. -/
theorem witness_lock :
    ∀ st ∈ [SeqState.armed, .running, .waiting, .paused, .stopping],
      busFree (Tests.inState st) = true ∧
      Tests.refusedAt (exec (.zoneDescriptorWrite .zattr 0xFFFF) (Tests.inState st)) .configLocked 0x79 = true := by
  decide +kernel

/-- PORTCFG: a magnitude kind at width 1, KIND 5 and a reserved bit are refused; standby and each park state. -/
theorem witness_portcfg :
    runActive Tests.base = false ∧ Tests.refusedAt (exec (.portcfgWrite 3 0x0009) Tests.base) .badArg 0x57 = true ∧
    Tests.refusedAt (exec (.portcfgWrite 0 0x002B) Tests.base) .badArg 0x54 = true ∧
    Tests.refusedAt (exec (.portcfgWrite 0 0x0100) Tests.base) .badArg 0x54 = true ∧
    Tests.after (exec (.portcfgWrite 0 0x0023) Tests.base)
      (fun t => t.ports.cfg[0] == ⟨true, .w4, .sge, .hiz⟩ && t.ports.pins[0] == ⟨0, 0⟩) = true ∧
    Tests.after (exec (.portcfgWrite 1 0x0081) Tests.base) (fun t => t.ports.pins[1] == ⟨0xFFFF, 0xFFFF⟩) = true ∧
    Tests.after (exec (.portcfgWrite 1 0x0080) Tests.base) (fun t => t.ports.pins[1] == ⟨0, 0⟩) = true := by
  decide +kernel

/-- The settings at the last value taken and the first refused. -/
theorem witness_settings :
    Tests.after (exec (.tsetselWrite 7) Tests.base) (fun t => t.tsets.sel == 7) = true ∧
    Tests.refusedAt (exec (.tsetselWrite 8) Tests.base) .badArg 0x5C = true ∧
    Tests.after (exec (.tsetValueWrite .stb 9) Tests.base) (fun t => t.tsets.sets[0].stb == 9) = true ∧
    Tests.after (exec (.startsegWrite 127) Tests.base) (fun t => t.seg.startseg == 127) = true ∧
    Tests.refusedAt (exec (.startsegWrite 128) Tests.base) .badArg 0x30 = true ∧
    Tests.after (exec (.armcfgWrite 3) Tests.base) (fun t => t.run.armcfg == 3) = true ∧
    Tests.refusedAt (exec (.armcfgWrite 4) Tests.base) .badArg 0x31 = true ∧
    Tests.after (exec (.failpolicyWrite 1) Tests.base) (fun t => t.run.failPause) = true ∧
    Tests.refusedAt (exec (.failpolicyWrite 2) Tests.base) .badArg 0x33 = true ∧
    Tests.after (exec (.starvetoWrite 5) Tests.base) (fun t => t.run.starveto == 5) = true ∧
    Tests.after (exec (.faillimitWrite 5) Tests.base) (fun t => t.run.faillimit == 5) = true := by decide +kernel

/-- The breakpoint registers at the last value taken and the first refused, during a run too. -/
theorem witness_breakpoint :
    Tests.after (exec (.breakpointWrite 1 .ctl 15) (Tests.inState .running)) (fun t => t.run.bp[1].iteren) = true ∧
    Tests.refusedAt (exec (.breakpointWrite 1 .ctl 16) Tests.base) .badArg 0x3C = true ∧
    Tests.after (exec (.breakpointWrite 0 .seg 63) Tests.base) (fun t => t.run.bp[0].seg == 63) = true ∧
    Tests.refusedAt (exec (.breakpointWrite 0 .seg 64) Tests.base) .badArg 0x39 = true ∧
    Tests.after (exec (.breakpointWrite 0 .off 65534) Tests.base) (fun t => t.run.bp[0].off == 65534) = true ∧
    Tests.refusedAt (exec (.breakpointWrite 0 .off 65535) Tests.base) .badArg 0x3A = true ∧
    Tests.after (exec (.breakpointWrite 0 .iter 4095) Tests.base) (fun t => t.run.bp[0].iter == 4095) = true ∧
    Tests.refusedAt (exec (.breakpointWrite 0 .iter 4096) Tests.base) .badArg 0x3B = true := by decide +kernel

/-- The ring's registers at their limits. -/
theorem witness_logRegisters :
    Tests.after (exec (.logbaseWrite 0x01FF) Tests.base) (fun t => t.log.base == 0x1FF0000) = true ∧
    Tests.refusedAt (exec (.logbaseWrite 0x0200) Tests.base) .badArg 0x65 = true ∧
    Tests.after (exec (.logsizeWrite 0x0100) Tests.base) (fun t => t.log.size == 0x1000000) = true ∧
    Tests.refusedAt (exec (.logsizeWrite 0x0100) { Tests.base with win.holdings := Vector.replicate 14 1 }) .badArg
      0x67 = true ∧
    Tests.refusedAt (exec (.logsizeWrite 0) { Tests.base with win.holdings := Vector.replicate 14 63 }) .badArg 0x67 =
      true ∧
    Tests.after (exec (.loglevelWrite 0x00FF) Tests.base) (fun t => t.log.level == 0xFF0000) = true ∧
    Tests.refusedAt (exec (.loglevelWrite 0x0100) Tests.base) .badArg 0x69 = true ∧
    Tests.after (exec .logReset { Tests.base with log.wp := 9 }) (fun t => t.log.wp == 0) = true ∧
    Tests.refusedCmd (exec .logReset (Tests.inState .stopping)) .wrongState = true := by decide +kernel

/-- LOGRP: an advance of the whole occupancy is taken, one more is refused, and so is LOGSIZE itself. -/
theorem witness_logrp :
    RingInRange { Tests.base with log.wp := 20 } ∧
    Tests.after (exec (.logrpWrite 0) { Tests.base with log.wp := 20, win.holdings := Vector.replicate 14 20 })
      (fun t => t.log.rp == 20) = true ∧
    Tests.refusedAt (exec (.logrpWrite 0) { Tests.base with log.wp := 20, win.holdings := Vector.replicate 14 21 })
      .badArg 0x6D = true ∧
    Tests.refusedAt (exec (.logrpWrite 0) { Tests.base with log.wp := 63, win.holdings := Vector.replicate 14 64 })
      .badArg 0x6D = true := by
  unfold RingInRange; decide +kernel

/-- TRGCFG with EDGE 3 on line 3, and a value without; TRGSTAT at its limit. -/
theorem witness_trigger :
    Tests.refusedAt (exec (.trgcfgWrite 0xC000) Tests.base) .badArg 0x60 = true ∧
    Tests.after (exec (.trgcfgWrite 0xB210) Tests.base)
      (fun t => t.trig.lines[3] == ⟨.outFail, .both⟩ && t.trig.lines[2] == ⟨.outRun, .rise⟩) = true ∧
    Tests.after (exec (.trgstatWrite 0x0008) { Tests.base with trig.latch := 0xF, ev.flags := 0x200 })
      (fun t => t.trig.latch == 7 && t.ev.flags == 0x200) = true ∧
    Tests.refusedAt (exec (.trgstatWrite 0x0010) Tests.base) .badArg 0x61 = true := by decide +kernel

/-- Zone writes at each check: a descriptor one address short of its neighbour is taken, one that touches it refused. -/
theorem witness_zones :
    Tests.after (exec (.zoneselWrite 7) Tests.base) (fun t => t.mem.zonesel == 7) = true ∧
    Tests.refusedAt (exec (.zoneselWrite 8) Tests.base) .badArg 0x74 = true ∧
    Tests.refusedAt (exec (.zoneDescriptorWrite .zlimit 0) { Tests.base with win.posted := [⟨0x2000, 1⟩] })
      .wbufPending 0x78 = true ∧
    Tests.refusedAt (exec (.zoneDescriptorWrite .zlimit 0) { Tests.base with win.memop := .fill 0x2000 4 1 })
      .memopBusy 0x78 = true ∧
    Tests.after (exec (.zoneDescriptorWrite .zlimit 0) { Tests.base with win.holdings := Vector.replicate 14 0x0FFF })
      (fun t => t.mem.zones[0].limit == 0x0FFF) = true ∧
    Tests.refusedAt (exec (.zoneDescriptorWrite .zlimit 0)
      { Tests.base with win.holdings := Vector.replicate 14 0x1000 }) .badArg 0x78 = true ∧
    Tests.refusedAt (exec (.zoneDescriptorWrite .zbase 0)
      { Tests.base with win.holdings := Vector.replicate 14 0x0200 }) .badArg 0x76 = true ∧
    Tests.refusedAt (exec (.zoneDescriptorWrite .zattr 0x000B) Tests.base) .badArg 0x79 = true ∧
    Tests.after (exec (.zoneDescriptorWrite .zattr 0x0006) Tests.base)
      (fun t => t.mem.zones[0] == ⟨0x100, 0x1FF, .data, true, false⟩) = true := by decide +kernel

/-- REFINT at its limit, MEMSTAT, a completion, and the end of initialization. -/
theorem witness_controller :
    Tests.after (exec (.refintWrite 64) Tests.base) (fun t => t.mem.refint == 64) = true ∧
    Tests.refusedAt (exec (.refintWrite 63) Tests.base) .badArg 0x7A = true ∧
    Tests.after (exec (.memstatWrite 0x0080) { Tests.base with mem.refmiss := true }) (fun t => !t.mem.refmiss) = true ∧
    Tests.after (exec .refreshCompletion { Tests.base with mem.grant := some .refresh, mem.owed := 1 })
      (fun t => t.mem.owed == 0 && t.mem.grant == none) = true ∧
    Tests.after (exec .memInitEnd State.reset) (fun t => t.mem.ready && t.ev.flags.getLsbD 12) = true := by
  decide +kernel

/-- Pairs: a capture, a holding, a read-only pair; WADDR and WINCTL at their limits. -/
theorem witness_windowRegisters :
    Tests.after (exec (.pairLowRead .logsize) Tests.base)
      (fun t => t.win.busData == 64 && t.win.captures[6] == 64) = true ∧
    pairReadOnly .waddr = false ∧ pairReadOnly .vcount = true ∧
    Tests.after (exec (.pairLowWrite .waddr 5) Tests.base) (fun t => t.win.holdings[12] == 5) = true ∧
    Tests.refusedAt (exec (.pairLowWrite .vcount 5) Tests.base) .noReg 0x20 = true ∧
    Tests.after (exec (.waddrWrite 0x01FF) { Tests.base with win.ahead := [1] })
      (fun t => t.win.waddr == 0x1FF0000 && t.win.ahead == []) = true ∧
    Tests.refusedAt (exec (.waddrWrite 0x0200) Tests.base) .badArg 0x11 = true ∧
    Tests.after (exec (.winctlWrite 1) Tests.base) (fun t => t.win.stride) = true ∧
    Tests.refusedAt (exec (.winctlWrite 2) Tests.base) .badArg 0x13 = true := by decide +kernel

/-- The event unit at its limits, and the line asserted and not. -/
theorem witness_events :
    Tests.after (exec (.evflagWrite 0x3FFF) { Tests.base with ev.flags := 0x2001 }) (fun t => t.ev.flags == 0) = true ∧
    Tests.refusedAt (exec (.evflagWrite 0x4000) Tests.base) .badArg 0x0C = true ∧
    Tests.after (exec (.evenableWrite 0x2000) Tests.base) (fun t => t.ev.enables == 0x2000) = true ∧
    Tests.refusedAt (exec (.evenableWrite 0x4000) Tests.base) .badArg 0x0D = true ∧
    Tests.after (exec (.evctlWrite 3) Tests.base) (fun t => t.ev.master) = true ∧
    Tests.refusedAt (exec (.evctlWrite 4) Tests.base) .badArg 0x0E = true ∧
    irqAsserted { Tests.base with ev := ⟨0x2000, 0x2001, true⟩ } = true ∧
    irqAsserted { Tests.base with ev := ⟨0x2000, 0x0001, true⟩ } = false ∧
    irqAsserted { Tests.base with ev := ⟨0x2000, 0x2001, true⟩, resetLow := true } = false := by decide +kernel

/-! ## Witnesses: segment commands, the data port and memory operations -/

/-- The segment commands on entry 63, on an entry in use, and out of range. -/
theorem witness_segment :
    Tests.after (exec .segWrite { Tests.base with seg.stage := Tests.entry, win.carg := Vector.replicate 6 63 })
      (fun t => t.seg.entries[63] == Tests.entry && t.win.cmdres == 0) = true ∧
    Tests.after (exec .segRead { Tests.walking Tests.entry .fetch with win.carg := Vector.replicate 6 3 })
      (fun t => t.seg.stage == Tests.entry && t.win.cmdres == 1) = true ∧
    Tests.refusedCmd (exec .segReady { Tests.walking Tests.entry .fetch with win.carg := Vector.replicate 6 3 })
      .segInUse = true ∧
    Tests.after (exec .segUnready { Tests.base with seg.entries := Vector.replicate 64 Tests.entry })
      (fun t => !segReady t.seg.entries[0]) = true ∧
    Tests.refusedCmd (exec .segWrite { Tests.base with win.carg := Vector.replicate 6 64 }) .badArg = true := by
  decide +kernel

/-- A walker stalled on entry 3, with a NOT_READY wait being made, goes on when the entry is readied. -/
theorem witness_segReady :
    Tests.after (exec .segReady { Tests.inState .waiting with
        run.cause := .notReady, run.starve := some 9, win.carg := Vector.replicate 6 3
        seg.entries := Tests.base.seg.entries.set 3 (segSetReady Tests.entry false)
        walker := { Walker.stoppedState with st := .stallReady, pend := some 3, next := .arrive 3 false } })
      (fun t => t.walker.st == .walking && t.walker.next == .fetch && t.run.state == .running &&
        t.app.stream == .priming && t.run.starve == none && t.win.cmdres == 2) = true := by decide +kernel

/-- Reads of WDATA at each check and each way of being answered. -/
theorem witness_wdataRead :
    let s := { Tests.base with win.waddr := 0x2000 }
    Tests.refusedAt (exec .wdataRead { s with mem.ready := false }) .memNotReady 0x12 = true ∧
    Tests.refusedAt (exec .wdataRead { s with win.memop := .fill 0x2000 4 1 }) .memopBusy 0x12 = true ∧
    Tests.refusedAt (exec .wdataRead Tests.base) .outOfZone 0x12 = true ∧
    Tests.after (exec .wdataRead { s with win.posted := [⟨0x2000, 1⟩] })
      (fun t => t.win.access == some .wdataRead && t.win.fetch == none) = true ∧
    Tests.after (exec .wdataRead { s with win.ahead := [7, 8] })
      (fun t => t.win.busData == 7 && t.win.waddr == 0x2001 && t.win.access == none) = true ∧
    Tests.after (exec .wdataRead { s with win.waddr := 0x2FFE })
      (fun t => t.win.access == some .wdataRead && t.win.fetch == some ⟨0x2FFE, 2⟩) = true := by decide +kernel

/-- The end of a fetch: unwanted, in the background, and for a stretched read. -/
theorem witness_fetch :
    let s := { Tests.granted (.fetch 0x2000 1 true) with
      dram.cells := [(0x2000, 9)], win.waddr := 0x2000, win.stride := false }
    Tests.after (exec .readAheadFetch s) (fun t => t.win.ahead == [9]) = true ∧
    Tests.after (exec .readAheadFetch { s with win.access := some .wdataRead })
      (fun t => t.win.busData == 9 && t.win.ahead == [] && t.win.access == none) = true ∧
    Tests.after (exec .readAheadFetch { s with mem.grant := some (.window (.fetch 0x2000 1 false)) })
      (fun t => t.win.ahead == [] && t.mem.grant == none) = true := by decide +kernel

/-- Writes of WDATA with 7 and with 8 writes posted, and at each check. -/
theorem witness_wdataWrite :
    let s := { Tests.base with win.waddr := 0x2000 }
    Tests.after (exec (.wdataWrite 5) { s with win.posted := List.replicate 7 ⟨0x2000, 1⟩ })
      (fun t => t.win.posted.length == 8 && t.win.waddr == 0x2001) = true ∧
    Tests.after (exec (.wdataWrite 5) { s with win.posted := List.replicate 8 ⟨0x2000, 1⟩ })
      (fun t => t.win.posted.length == 8 && t.win.access == some (.wdataWrite 5)) = true ∧
    Tests.refusedAt (exec (.wdataWrite 5) { s with win.waddr := 0x3000 }) .outOfZone 0x12 = true ∧
    Tests.refusedAt (exec (.wdataWrite 5) { Tests.inState .running with win.waddr := 0x100 }) .zoneLocked 0x12 = true ∧
    Tests.after (exec (.wdataWrite 5) { Tests.inState .running with win.waddr := 0x2FFF })
      (fun t => t.win.posted.length == 1) = true := by decide +kernel

/-- A drain: with no access held, with a held write, and with a held read. -/
theorem witness_drain :
    let s := { Tests.granted (.drain [⟨0x2000, 2⟩] true) with win.posted := [⟨0x2000, 2⟩], win.waddr := 0x2000 }
    Tests.after (exec .postedWriteDrain s) (fun t => t.dram.cells == [(0x2000, 2)] && t.win.posted == []) = true ∧
    Tests.after (exec .postedWriteDrain { s with win.access := some (.wdataWrite 3) })
      (fun t => t.win.posted == [⟨0x2000, 3⟩] && t.win.access == none) = true ∧
    Tests.after (exec .postedWriteDrain { s with win.access := some .wdataRead })
      (fun t => t.win.fetch == some ⟨0x2000, 4⟩) = true := by decide +kernel

/-- A drain grant that writes its first halfword and goes on: the held write takes the freed place. A unit left by a
SOFT_RESET only writes. -/
theorem witness_drainFirstPlace :
    let ws := (List.range 8).map fun k => (⟨BitVec.ofNat 25 (0x2000 + k), 1⟩ : PostedWrite)
    let s := { Tests.granted (.drain ws true) with win.posted := ws, win.waddr := 0x2100 }
    CountsInRange s ∧
    Tests.after (exec .postedWriteDrain { s with win.access := some (.wdataWrite 3) })
      (fun t => t.win.posted == ws.drop 1 ++ [⟨0x2100, 3⟩] && t.win.access == none && t.dram.cells == [(0x2000, 1)] &&
        t.mem.grant == some (.window (.drain (ws.drop 1) true))) = true ∧
    Tests.after (exec .postedWriteDrain { s with win.access := some .wdataRead })
      (fun t => t.win.posted.length == 7 && t.win.fetch == none && t.win.access == some .wdataRead) = true ∧
    Tests.after (exec .postedWriteDrain { s with win.posted := [], mem.grant := some (.window (.drain ws false)) })
      (fun t => t.dram.cells == [(0x2000, 1)] && t.win.posted == [] &&
        t.mem.grant == some (.window (.drain (ws.drop 1) false))) = true := by
  refine ⟨⟨by decide +kernel, by decide +kernel, by decide +kernel, by decide +kernel, by decide +kernel,
    by decide +kernel, ?_, ?_, ?_⟩, by decide +kernel, by decide +kernel, by decide +kernel⟩
  · intro f h; exact absurd h (by simp [Tests.granted, Tests.base, State.reset, State.porWith, Window.por])
  · intro a n live h; exact absurd h (by simp [Tests.granted])
  · intro ws h; simp [Tests.granted] at h; simp [h]

/-- A burst in progress: a FILL's grant, a COPY between its two grants, and none for a burst left by a SOFT_RESET. -/
theorem witness_burstInProgress :
    burstInProgress { Tests.granted (.fill 0x2000 8 1 .live) with win.memop := .fill 0x2000 16 1 } = true ∧
    burstInProgress { Tests.base with win.memop := .fill 0x2000 16 1 } = false ∧
    burstInProgress { Tests.base with win.memop := .copy 0x2000 0x2100 16 (some [1]) } = true ∧
    burstInProgress { Tests.base with win.memop := .copy 0x2000 0x2100 16 none } = false ∧
    burstInProgress { Tests.granted (.fill 0x2000 8 1 (.orphan true)) with win.memop := .fill 0x2000 16 1 } = false := by
  decide +kernel

/-- FILL, COPY and PATCH accepted, and a check of each. -/
theorem witness_memops :
    let s := { Tests.base with win.carg := #v[0x2000, 0, 0x0010, 0, 0x00AA, 0] }
    Tests.after (exec .fill s) (fun t => t.win.memop == .fill 0x2000 16 0xAA && t.win.cmdstat == .ok) = true ∧
    Tests.refusedCmd (exec .fill { Tests.base with win.carg := #v[0x2FF1, 0, 0x0010, 0, 0, 0] }) .outOfZone = true ∧
    Tests.refusedCmd (exec .fill { Tests.base with win.carg := #v[0x2000, 0, 0, 0, 0, 0] }) .badArg = true ∧
    Tests.after (exec .copy { Tests.base with win.carg := #v[0x2000, 0, 0x2010, 0, 0x0010, 0] })
      (fun t => t.win.memop == .copy 0x2000 0x2010 16 none) = true ∧
    Tests.refusedCmd (exec .copy { Tests.base with win.carg := #v[0x2000, 0, 0x200F, 0, 0x0010, 0] }) .badArg = true ∧
    Tests.after (exec .patch s) (fun t => t.win.patch == some ⟨0x2000, 0x10, 0⟩ && t.win.access == some .patch) =
      true ∧
    Tests.refusedCmd (exec .patch { s with win.posted := [⟨0x2000, 1⟩] }) .wbufPending = true := by decide +kernel

/-- The bursts: the last of a FILL, one with a held MEMOP_CANCEL, the two of a COPY, and one left by a SOFT_RESET. -/
theorem witness_bursts :
    let f := { Tests.granted (.fill 0x2008 8 0xAA .live) with win.memop := .fill 0x2000 16 0xAA, win.mopCount := 8 }
    Tests.after (exec .fillBurst f) (fun t => t.win.memop == .idle && t.win.mopLast == .done && t.win.mopCount == 16 &&
      t.ev.flags.getLsbD 10 && t.dram.cells.length == 8) = true ∧
    Tests.after (exec .fillBurst { f with win.access := some .cancel })
      (fun t => t.win.mopLast == .cancelled && t.win.cmdres == 16 && !t.ev.flags.getLsbD 10) = true ∧
    Tests.after (exec .copyReadBurst { Tests.granted (.copyRead 0x2000 0x2010 1 .live) with
        win.memop := .copy 0x2000 0x2010 8 none, dram.cells := [(0x2000, 3)] })
      (fun t => t.win.memop == .copy 0x2000 0x2010 8 (some [3])) = true ∧
    Tests.after (exec .copyWriteBurst { Tests.granted (.copyWrite 0x2010 [3] .live) with
        win.memop := .copy 0x2000 0x2010 8 (some [3]) })
      (fun t => t.win.memop == .copy 0x2000 0x2010 8 none && t.win.mopCount == 1) = true ∧
    Tests.after (exec .copyWriteBurst (Tests.granted (.copyWrite 0x2010 [3] (.orphan false))))
      (fun t => t.win.mopCount == 0 && t.dram.cells == [(0x2010, 3)]) = true := by decide +kernel

/-- PATCH's grant; MEMOP_CANCEL idle, between bursts and during one. -/
theorem witness_patchCancel :
    Tests.after (exec .patchGrant { Tests.granted (.patch ⟨0x2000, 0xFF00, 0x0012⟩) with
        dram.cells := [(0x2000, 0xABCD)], win.access := some .patch })
      (fun t => t.dram.cells == [(0x2000, 0xAB12)] && t.win.cmdres == 0xABCD && t.win.access == none) = true ∧
    Tests.refusedCmd (exec .memopCancel Tests.base) .wrongState = true ∧
    Tests.after (exec .memopCancel { Tests.base with win.memop := .fill 0x2000 16 1, win.mopCount := 8 })
      (fun t => t.win.mopLast == .cancelled && t.win.cmdres == 8) = true ∧
    Tests.after (exec .memopCancel { Tests.granted (.fill 0x2000 8 1 .live) with win.memop := .fill 0x2000 16 1 })
      (fun t => t.win.access == some .cancel && t.win.memop == .fill 0x2000 16 1) = true := by decide +kernel

/-! ## Witnesses: the walker -/

/-- An arrival at an entry that is not ready, malformed, plain, and opening a loop at depth 3 and at depth 4. -/
theorem witness_arrival :
    let s := fun (img : SegImage) (depth : Nat) => { Tests.walking img (.arrive 3 false) with
      walker.stack := List.replicate depth ⟨0, 1, 5⟩ }
    Tests.after (exec .walkerArrival (s (segSetReady Tests.entry false) 0))
      (fun t => t.walker.st == .stallReady && t.walker.pend == some 3) = true ∧
    Tests.after (exec .walkerArrival (s (Tests.entry.set 2 0) 0))
      (fun t => t.queue == [.fault .badSegment ⟨3, 0, 0, 0⟩] && t.walker.st == .done) = true ∧
    Tests.after (exec .walkerArrival (s Tests.entry 0))
      (fun t => t.walker.next == .fetch && t.walker.fetchAddr == 0x100) = true ∧
    Tests.after (exec .walkerArrival (s ((Tests.entry.set 6 5).set 5 2) 3))
      (fun t => t.walker.stack.length == 4 && t.walker.next == .fetch) = true ∧
    Tests.after (exec .walkerArrival (s ((Tests.entry.set 6 5).set 5 2) 4))
      (fun t => t.queue == [.fault .loopOverflow ⟨3, 0, 0, 5⟩]) = true := by decide +kernel

/-- A WAIT item with SKIP, and one without. -/
theorem witness_waitPush :
    Tests.after (exec .waitItemPush (Tests.walking (Tests.entry.set 6 0x0061) .pushWait))
      (fun t => t.walker.st == .stallWait && t.queue.length == 1) = true ∧
    Tests.after (exec .waitItemPush { Tests.walking (Tests.entry.set 6 0x0011) .pushWait with
        queue := List.replicate 7 (.endChain Tags.zero) })
      (fun t => t.walker.st == .stallFull && t.walker.next == .fetch) = true := by decide +kernel

/-- A fetch outside every VECTOR zone, of a record that runs over the zone's end, of a bad header, and of good ones. -/
theorem witness_fetchRecord :
    let s := { Tests.walking Tests.entry .fetch with
      mem.grant := some (.walker true), dram.cells := [(0x100, 0x0000), (0x1FF, 0x0008)]
      tsets.sets := Vector.replicate 8 ⟨4, 0, 3⟩ }
    Tests.after (exec .recordFetch { s with mem.grant := none, walker.fetchAddr := 0x200 })
      (fun t => t.queue == [.fault .fetchZone ⟨3, 0, 0, 0⟩] && t.walker.st == .done) = true ∧
    Tests.after (exec .recordFetch { s with walker.fetchAddr := 0x1FF })
      (fun t => t.queue == [.fault .fetchZone ⟨3, 0, 0, 0⟩]) = true ∧
    Tests.after (exec .recordFetch { s with dram.cells := [(0x100, 0x0200)] })
      (fun t => t.queue == [.fault .badVector ⟨3, 0, 0, 0⟩]) = true ∧
    Tests.after (exec .recordFetch s)
      (fun t => t.queue.length == 1 && t.walker.tags == ⟨3, 1, 0, 0⟩ && t.walker.fetchAddr == 0x101) = true ∧
    Tests.after (exec .recordFetch { s with walker.tags := ⟨3, 1, 0, 0⟩ })
      (fun t => t.walker.tags == ⟨3, 0, 1, 0⟩ && t.walker.fetchAddr == 0x100) = true ∧
    Tests.after (exec .recordFetch { s with walker.tags := ⟨3, 1, 1, 0⟩ })
      (fun t => t.walker.next == .leave && t.walker.fetchAddr == 0x101) = true ∧
    Tests.after (exec .recordFetch { Tests.inState .ended with mem.grant := some (.walker false) })
      (fun t => t.mem.grant == none && t.queue == []) = true := by decide +kernel

/-- The grant of a walk that was stopped ends in the walk of a new run: the port goes to the new walk, and nothing is pushed.
A FETCH_ZONE of the new walk comes before that end. -/
theorem witness_fetchDiscarded :
    let s := { Tests.walking Tests.entry .fetch with mem.grant := some (.walker false) }
    rangeInKind s .vector s.walker.fetchAddr 1 = true ∧
    Tests.after (exec .recordFetch s)
      (fun t => t.mem.grant == some (.walker true) && t.queue == [] && t.walker == s.walker) = true ∧
    Tests.after (exec .recordFetch { s with walker.next := .arrive 3 false })
      (fun t => t.mem.grant == none && t.queue == []) = true ∧
    Tests.after (exec .recordFetch { s with walker.fetchAddr := 0x200 })
      (fun t => t.queue == [.fault .fetchZone ⟨3, 0, 0, 0⟩] && t.mem.grant == some (.walker false)) = true := by
  decide +kernel

/-- Each decode fault and none. -/
theorem witness_decode :
    let s := { Tests.playing (Tests.period Tests.vector true true) with
      tsets.sets := Vector.replicate 8 ⟨4, 0, 3⟩
      ports.cfg := Tests.base.ports.cfg.set 0 ⟨true, .w4, .ule, .hiz⟩ }
    decodeFault s 0x0200 #v[none, none, none, none] = some .badVector ∧
    decodeFault Tests.base 0x0000 #v[none, none, none, none] = some .badVector ∧
    decodeFault s 0x0010 #v[none, some ⟨0, 0, 0⟩, none, none] = some .portStandby ∧
    decodeFault s 0x0008 #v[some ⟨0, 0, 0x8000⟩, none, none, none] = some .mixedLane ∧
    decodeFault s 0x0008 #v[some ⟨0, 0, 0xF000⟩, none, none, none] = none := by decide +kernel

/-- The manual's example of one record over its repeats: ports A and C of a record, and the decoded vector of iteration 3
under MODOP = INC, MODTGT = DRIVE and MODPORTS = {A}. -/
theorem witness_decodedVector :
    let h : HW := 0x012A
    let e : SegImage := (Vector.replicate 12 0).set 11 0x0021
    let parts : Vector (Option PortPart) 4 := #v[some ⟨0xFC00, 0x0E3C, 0x03FF⟩, none, some ⟨0, 0x8000, 0xFF00⟩, none]
    let s := { Tests.base with
      tsets.sets := Tests.base.tsets.sets.set 2 ⟨40, 0, 30⟩
      ports.cfg := #v[⟨true, .w4, .eq, .hiz⟩, ⟨false, .w1, .eq, .hiz⟩, ⟨true, .w8, .uge, .hiz⟩,
        ⟨false, .w1, .eq, .hiz⟩] }
    recordParts h [0xFC00, 0x0E3C, 0x03FF, 0, 0x8000, 0xFF00] = parts ∧ decodeFault s h parts = none ∧
    decodeVector s e 3 h parts =
      { tset := 2, timing := ⟨40, 0, 30⟩, mark := false, capture := true
        parts := #v[some ⟨0xFC00, 0x323C, 0x03FF⟩, none, some ⟨0, 0x8000, 0xFF00⟩, none] } := by decide +kernel

/-- A leaving to an entry and to the chain's end, a loop-back, a pop, and each loop fault; and through ALT. -/
theorem witness_leaving :
    let s := fun (img : SegImage) (stack : List LoopElem) => { Tests.walking img .leave with walker.stack := stack }
    let closing := Tests.entry.set 6 0x0009
    Tests.after (exec .walkerLeaving (s (Tests.entry.set 4 0x7F3F) []))
      (fun t => t.walker.next == .arrive 63 false && t.seg.lastrel == 3 && t.ev.flags.getLsbD 7) = true ∧
    Tests.after (exec .walkerLeaving (s Tests.entry []))
      (fun t => t.queue == [.endChain Tags.zero] && t.walker.st == .done && !segReady t.seg.entries[3]) = true ∧
    Tests.after (exec .walkerLeaving (s Tests.entry [⟨1, 1, 0⟩]))
      (fun t => t.queue == [.fault .loopUnclosed ⟨3, 0, 0, 0⟩]) = true ∧
    Tests.after (exec .walkerLeaving (s closing [])) (fun t => t.queue == [.fault .loopUnderflow ⟨3, 0, 0, 0⟩]) = true ∧
    Tests.after (exec .walkerLeaving (s closing [⟨1, 1, 0⟩]))
      (fun t => t.walker.next == .arrive 1 true && t.walker.stack == [⟨1, 0, 1⟩]) = true ∧
    Tests.after (exec .walkerLeaving (s closing [⟨1, 0, 1⟩]))
      (fun t => t.queue == [.endChain Tags.zero] && t.walker.stack == []) = true ∧
    Tests.after (exec .walkerLeaving { s (Tests.entry.set 4 0x057F) [] with walker.next := .leaveAlt })
      (fun t => t.walker.next == .arrive 5 false) = true := by decide +kernel

/-! ## Witnesses: applying vectors, waits and edges -/

/-- The taking of each item, of an empty queue, and before a breakpoint. -/
theorem witness_taking :
    let s := fun q : List Item => { Tests.playing (Tests.period Tests.vector true true) with queue := q }
    let v : List Item := [.vector Tests.vector ⟨3, 0, 0, 0⟩ false]
    (taking (s v)).app.vcount = 1 ∧
    (taking { s v with run.bp := Vector.replicate 2 ⟨true, false, false, false, 0, 0, 0⟩ }).run.cause = .break0 ∧
    (taking { s v with run.bp := (s v).run.bp.set 1 ⟨true, true, false, false, 3, 0, 0⟩ }).run.cause = .break1 ∧
    (taking (s [.wait (Tests.waitItem false) ⟨3, 0, 0, 0⟩])).run.cause = .levels ∧
    (taking (s [.endChain Tags.zero])).run.cause = .complete ∧
    (taking (s [.fault .badVector ⟨3, 0, 0, 0⟩])).run.fault.code = .badVector ∧
    (taking { s [] with walker.st := .stallReady }).run.cause = .notReady ∧
    (taking { s [] with walker.st := .walking }).run.fault.code = .underrun := by decide +kernel

/-- A stream begins; a period ends with each request held, and with none. -/
theorem witness_periods :
    let s := Tests.playing (Tests.period Tests.vector true true)
    Tests.after (exec .streamBegin { Tests.inState .running with
        app.stream := .priming, walker.st := .walking, queue := List.replicate 8 (.endChain Tags.zero) })
      (fun t => t.run.state == .stopping) = true ∧
    Tests.after (exec .periodEnd { s with run.stopReq := true, run.pauseFail := true })
      (fun t => t.run.cause == .failLimit && t.app.passdone.seg == 0) = true ∧
    Tests.after (exec .periodEnd { s with run.pauseFail := true, run.pauseHost := true })
      (fun t => t.run.cause == .fail && !t.run.pauseHost) = true ∧
    Tests.after (exec .periodEnd { s with run.pauseHost := true, run.pauseStep := true })
      (fun t => t.run.cause == .host) = true ∧
    Tests.after (exec .periodEnd { s with run.pauseStep := true }) (fun t => t.run.cause == .step) = true ∧
    Tests.after (exec .periodEnd { s with queue := [.endChain Tags.zero] }) (fun t => t.run.cause == .complete) = true := by
  decide +kernel

/-- A drive edge before the strobe, and one at the strobe's tick that follows it. -/
theorem witness_drive :
    Tests.after (exec .driveEdge (Tests.playing (Tests.period Tests.vector false false)))
      (fun t => t.ports.pins[0] == ⟨0xFFFF, 0x5A5A⟩ && t.ports.pins[1] == ⟨0, 0⟩) = true ∧
    Tests.after (exec .driveEdge (Tests.playing (Tests.period
        { Tests.vector with timing := ⟨10, 6, 6⟩, mark := true } false true)))
      (fun t => t.ports.pins[0] == ⟨0xFFFF, 0x5A5A⟩) = true := by decide +kernel

/-- A strobe that passes, one that fails under a limit of 1, and a CAPTURE. -/
theorem witness_strobe :
    let s := Tests.playing (Tests.period Tests.compared true false)
    Tests.after (exec (.strobe #v[0, 9, 9, 9]) s) (fun t => t.app.failcount == 0 && t.log.fifo == []) = true ∧
    Tests.after (exec (.strobe #v[0x0F00, 9, 9, 9]) { s with run.faillimit := 1 })
      (fun t => t.app.failcount == 1 && t.run.stopReq && t.ev.flags.getLsbD 4 &&
        t.log.fifo.map (·.body) == [[0x4000, 0x0F00]]) = true ∧
    Tests.after (exec (.strobe #v[0x0F00, 9, 9, 9])
        (Tests.playing (Tests.period { Tests.compared with capture := true } true false)))
      (fun t => t.log.fifo.map (·.kind) == [.fail, .capture]) = true := by decide +kernel

/-- A MATCH sample that matches and one that does not; a wait that times out with FAULT and with SKIP; starvation. -/
theorem witness_waits :
    let s := fun skip sampled => { Tests.waiting (Tests.waitItem skip) sampled with
      walker := { Walker.stoppedState with st := .stallWait, cur := some ⟨3, Tests.entry⟩, next := .fetch } }
    Tests.after (exec (.matchSample #v[1, 0, 0, 0]) (s false false))
      (fun t => t.app.wait == none && t.run.state == .stopping) = true ∧
    Tests.after (exec (.matchSample #v[2, 0, 0, 0]) (s false false)) (fun t => t.run.state == .waiting) = true ∧
    Tests.after (exec (.matchSample #v[1, 0, 0, 0]) (s true false))
      (fun t => t.walker.st == .walking && t.walker.fetchAddr == 0x100 && t.app.stream == .priming) = true ∧
    Tests.after (exec .waitPeriodEnd (s false true))
      (fun t => t.run.fault.code == .waitTimeout && t.log.fifo.length == 1) = true ∧
    Tests.after (exec .waitPeriodEnd (s true true))
      (fun t => t.walker.next == .leaveAlt && t.run.state == .running) = true ∧
    Tests.after (exec .waitPeriodEnd (Tests.waiting { Tests.waitItem true with timeout := 2 } true))
      (fun t => t.run.state == .waiting && (t.app.wait.map (·.remaining)) == some 1) = true ∧
    Tests.after (exec .waitPeriodEnd (Tests.waiting { Tests.waitItem true with timeout := 0 } true))
      (fun t => t.run.state == .waiting) = true ∧
    Tests.after (exec .starvetoExpiry { Tests.inState .waiting with
        run.cause := .notReady, run.starveto := 1, walker.pend := some 3 })
      (fun t => t.run.fault == ⟨.starveTimeout, ⟨3, 0, 0, 0⟩⟩) = true := by decide +kernel

/-- A start edge with the queue primed, an early one, one that satisfies a wait, and one of the other kind. -/
theorem witness_edges :
    Tests.after (exec (.triggerEdge 0 true) { Tests.inState .armed with queue := [.endChain Tags.zero] })
      (fun t => t.run.state == .stopping && t.trig.latch == 1) = true ∧
    Tests.after (exec (.triggerEdge 0 true) { Tests.inState .armed with walker.st := .walking })
      (fun t => t.run.state == .armed && t.ev.flags == 0x300) = true ∧
    Tests.after (exec (.triggerEdge 0 true) { Tests.waiting { Tests.waitItem false with kind := .trigger } false with
        walker.st := .walking })
      (fun t => t.run.state == .running && t.app.stream == .priming && t.app.wait == none) = true ∧
    Tests.after (exec (.triggerEdge 3 true) Tests.base) (fun t => t.trig.latch == 8) = true ∧
    exec (.triggerEdge 3 true) { Tests.base with resetLow := true } = .next { Tests.base with resetLow := true } ∧
    exec (.triggerEdge 0 false) Tests.base = .next Tests.base :=
  ⟨by decide +kernel, by decide +kernel, by decide +kernel, by decide +kernel, rfl, rfl⟩

/-- A publication during a run; the drain's END record produced, and its publication. -/
theorem witness_publication :
    let s := fun st => { Tests.inState st with
      log.fifo := [Tests.record], mem.grant := some .writer, log.wp := 60, log.rp := 60, log.level := 11 }
    RingInRange (s .running) ∧
    Tests.after (exec .recordPublication (s .running)) (fun t => t.log.wp == 7 && t.log.fifo == [] &&
      t.ev.flags.getLsbD 5 && t.dram.cells.read? 0x1006 == some 0x1234 && t.dram.cells.length == 11) = true ∧
    Tests.after (exec .recordPublication { s .stopping with run.cause := .complete })
      (fun t => t.log.endProduced && t.log.fifo.map (·.kind) == [.endRun]) = true ∧
    Tests.after (exec .recordPublication { s .stopping with
        run.cause := .fault, run.fault := ⟨.underrun, ⟨0, 0, 0, 0⟩⟩
        log.fifo := [Claims.endRecord .fault ⟨.underrun, ⟨0, 0, 0, 0⟩⟩ Tests.base], log.endProduced := true })
      (fun t => t.run.state == .faulted && t.ev.flags.getLsbD 1) = true := by
  unfold RingInRange; decide +kernel

/-- The halfwords of a record, every field at its greatest value. -/
theorem witness_halfwords :
    LogRecord.halfwords { kind := .endRun, mask := 15, seq := 0x00010002, tags := ⟨127, 0xFFFE, 0xFFF, 9⟩, tset := 7,
                          vnum := 0x00030004, body := List.replicate 8 5 } =
      [0x07C7, 2, 1, 0x077F, 0xFFFE, 0x0FFF, 9, 4, 3] ++ List.replicate 8 5 := by decide +kernel

/-- Grants cut short: a writer grant never leaves its last halfword, a FILL burst may leave all of its own, a PATCH leaves
its halfword with the second transfer. -/
theorem witness_cutGrants :
    let w := { Tests.base with log.fifo := [Tests.record], mem.grant := some .writer }
    let p := { Tests.granted (.patch ⟨0x2000, 0, 7⟩) with dram.cells := [(0x2000, 1)] }
    (partialTransfer 99 w).dram.cells.length = 10 ∧ (partialTransfer 0 w).dram.cells = [] ∧
    (partialTransfer 99 (Tests.granted (.fill 0x2000 8 1 .live))).dram.cells.length = 8 ∧
    (partialTransfer 1 (Tests.granted (.drain [⟨0x2000, 1⟩, ⟨0x2001, 2⟩] true))).dram.cells = [(0x2000, 1)] ∧
    (partialTransfer 1 (Tests.granted (.copyWrite 0x2000 [3, 4] .live))).dram.cells = [(0x2000, 3)] ∧
    (partialTransfer 1 p).dram.cells = [(0x2000, 1)] ∧ (partialTransfer 2 p).dram.cells = [(0x2000, 7)] := by
  decide +kernel

/-- The resets. -/
theorem witness_resets :
    Tests.after (exec (.por 3) (Tests.inState .running)) (fun t => t.mem.msize == 3 && t.run.state == .idle) = true ∧
    Tests.after (exec (.resetNAssert 0) { Tests.base with win.memop := .fill 0x2000 16 1, win.mopCount := 8 })
      (fun t => t.resetLow && t.mem.ready && t.win.mopLast == .abandoned && t.win.mopCount == 8) = true ∧
    Tests.after (exec .resetNRelease { State.reset with resetLow := true }) (fun t => !t.resetLow) = true ∧
    exec .start { Tests.base with resetLow := true } = .next { Tests.base with resetLow := true } := by
  refine ⟨by decide +kernel, by decide +kernel, by decide +kernel, rfl⟩

/-- A tick advances the refresh timer in READY and, in INIT, the settling interval. -/
theorem test_tick : (tick Tests.base).mem.refTimer = 1 ∧ (tick State.reset).mem.initTicks = 1 := by decide +kernel

end Sys2Proof.Machine
end

section
/-! Lanes and the comparator (01_pins_ports_and_lanes.md, R10 to R14): what a lane value is, bit by bit and as a bit vector,
how the lane results lie in their word, and when a lane fails under each kind. -/

namespace Sys2Proof.Machine

/-! ## Lane values (R10) -/

/-- A lane that a port has lies within its 16 pins, and its width is not 0. -/
theorem lane_within_pins {w i : Nat} (hi : i < 16 / w) : 0 < w ∧ (i + 1) * w ≤ 16 := by
  have hw : 0 < w := Nat.pos_of_ne_zero fun h => by simp [h] at hi
  exact ⟨hw, (Nat.le_div_iff_mul_le hw).mp hi⟩

/-- The lane value is the bit vector of the lane's pins, read unsigned. -/
theorem laneValue_eq_toNat_extractLsb' (v : HW) (w i : Nat) :
    laneValue v w i = (v.extractLsb' (16 - (i + 1) * w) w).toNat := by
  rw [laneValue, BitVec.extractLsb'_toNat, Nat.shiftRight_eq_div_pow]

/-- The signed reading of a lane value is two's complement. -/
theorem laneSigned_toNat {w : Nat} (x : BitVec w) : laneSigned w x.toNat = x.toInt := by
  rw [laneSigned, BitVec.toInt_eq_toNat_cond, Nat.cast_pow, Nat.cast_ofNat]

/-- Bit `j` of a lane value is the lane's pin `j` places above its lowest. -/
theorem testBit_laneValue (v : HW) (w i j : Nat) :
    (laneValue v w i).testBit j = (decide (j < w) && v.getLsbD (16 - (i + 1) * w + j)) := by
  rw [laneValue_eq_toNat_extractLsb', BitVec.testBit_toNat, BitVec.getLsbD_extractLsb']

/-- A lane value is not 0 exactly when one of the lane's pins is 1. -/
theorem laneValue_ne_zero_iff {v : HW} {w i : Nat} (hi : i < 16 / w) :
    laneValue v w i ≠ 0 ↔
      ∃ k, 16 - (i + 1) * w ≤ k ∧ k ≤ 15 - i * w ∧ v.getLsbD k = true := by
  obtain ⟨hw, hpins⟩ := lane_within_pins hi
  rw [Nat.succ_mul] at hpins ⊢
  constructor
  · intro hne
    obtain ⟨j, hj⟩ := Nat.exists_testBit_of_ne_zero hne
    rw [testBit_laneValue, Bool.and_eq_true, decide_eq_true_eq, Nat.succ_mul] at hj
    obtain ⟨hjw, hbit⟩ := hj
    exact ⟨_, Nat.le_add_right _ j, by omega, hbit⟩
  · rintro ⟨k, hlow, hhigh, hbit⟩ hzero
    have hpin : (laneValue v w i).testBit (k - (16 - (i * w + w))) = true := by
      rw [testBit_laneValue, Nat.succ_mul, Nat.add_sub_cancel' hlow, hbit, Bool.and_true, decide_eq_true_eq]
      omega
    simp [hzero] at hpin

/-! ## The lane-result word (R11) -/

/-- The results of the first `n` lanes as a number, the result of lane `i` at bit 15 − i. -/
def packedResults (fails : Nat → Bool) (n : Nat) : Nat :=
  ((List.range n).map fun i => if fails i then 2 ^ (15 - i) else 0).sum

theorem laneResult_eq_packedResults (cfg : PortCfg) (part : PortPart) (observed : HW) :
    laneResult cfg part observed =
      BitVec.ofNat 16 (packedResults (laneFails cfg part observed) (16 / cfg.width.pins)) := rfl

theorem packedResults_succ (fails : Nat → Bool) (n : Nat) :
    packedResults fails (n + 1) = packedResults fails n + if fails n then 2 ^ (15 - n) else 0 :=
  List.sum_range_succ _ n

/-- The results of the first `n` lanes leave the bits below them 0. -/
theorem two_pow_dvd_packedResults (fails : Nat → Bool) (n : Nat) : 2 ^ (16 - n) ∣ packedResults fails n := by
  refine List.dvd_sum fun x hx => ?_
  obtain ⟨i, hi, rfl⟩ := List.mem_map.mp hx
  have hin : i < n := List.mem_range.mp hi
  split
  · exact pow_dvd_pow 2 (by omega)
  · exact dvd_zero _

/-- One more lane result fills one bit and leaves the others: nothing carries, for the bits below the results so far are 0. -/
theorem testBit_packedResults_succ (fails : Nat → Bool) {n : Nat} (hn : n < 16) (k : Nat) :
    (packedResults fails (n + 1)).testBit k =
      if k = 15 - n then fails n else (packedResults fails n).testBit k := by
  have hlt : (if fails n then 2 ^ (15 - n) else 0) < 2 ^ (16 - n) := by
    split
    · exact Nat.pow_lt_pow_right (by decide) (by omega)
    · exact Nat.two_pow_pos _
  obtain ⟨q, hq⟩ := two_pow_dvd_packedResults fails n
  rw [packedResults_succ, hq, Nat.testBit_two_pow_mul_add q hlt, Nat.testBit_two_pow_mul]
  have hnew : (if fails n then 2 ^ (15 - n) else 0).testBit k = (decide (15 - n = k) && fails n) := by
    cases fails n <;> simp [Nat.testBit_two_pow]
  rw [hnew]
  by_cases hk : k < 16 - n
  · by_cases hkn : k = 15 - n
    · simp [hkn, show 15 - n < 16 - n by omega]
    · simp [hk, hkn, Ne.symm hkn, show ¬ 16 ≤ k + n by omega]
  · simp [hk, show k ≠ 15 - n by omega, show 16 - n ≤ k by omega]

theorem testBit_packedResults (fails : Nat → Bool) {n k : Nat} (hn : n ≤ 16) (hk : k < 16) :
    (packedResults fails n).testBit k = (decide (15 - k < n) && fails (15 - k)) := by
  induction n with
  | zero => simp [packedResults]
  | succ n ih =>
    rw [testBit_packedResults_succ fails hn, ih (by omega)]
    split
    next hkn => simp [hkn, show 15 - (15 - n) = n by omega]
    next hkn => simp [show 15 - k < n + 1 ↔ 15 - k < n by omega]

/-- Settles O16: lane values by the bit vector of the lane's pins, the word by induction on the number of lanes. -/
theorem lanesAndTheirResultsArePacked : Obligations.LanesAndTheirResultsArePacked := by
  refine ⟨fun v w i _ _ => ⟨rfl, laneValue_eq_toNat_extractLsb' v w i, ?_⟩, fun cfg part observed k hk => ?_⟩
  · rw [laneValue_eq_toNat_extractLsb', laneSigned_toNat]
  · rw [laneResult_eq_packedResults, BitVec.getLsbD_ofNat, testBit_packedResults _ (Nat.div_le_self ..) hk]
    simp [hk]

/-! ## The comparator under EQ (R12) -/

/-- The pins that EQ finds different. -/
theorem getLsbD_eqMismatch (part : PortPart) (observed : HW) (k : Nat) :
    (eqMismatch part observed).getLsbD k = true ↔
      part.dir.getLsbD k = false ∧ part.care.getLsbD k = true ∧ observed.getLsbD k ≠ part.data.getLsbD k := by
  have hpin : part.care.getLsbD k = true → k < 16 := BitVec.lt_of_getLsbD
  simp only [eqMismatch, BitVec.getLsbD_and, BitVec.getLsbD_not, BitVec.getLsbD_xor, Bool.and_eq_true,
    decide_eq_true_eq, Bool.not_eq_true', bne_iff_ne, and_assoc]
  tauto

/-- Under EQ no lane is MIXED: the classes are those of the magnitude kinds. -/
theorem hasMixedLane_of_eq {cfg : PortCfg} (part : PortPart) (hkind : cfg.kind = .eq) :
    hasMixedLane cfg part = false := by
  simp [hasMixedLane, CompareKind.isMagnitude, hkind]

theorem laneFails_of_eq {cfg : PortCfg} (part : PortPart) (observed : HW) (i : Nat) (hkind : cfg.kind = .eq) :
    laneFails cfg part observed i = true ↔ laneValue (eqMismatch part observed) cfg.width.pins i ≠ 0 := by
  simp [laneFails, hkind]

/-- Settles O17: the lane of the mismatch word is not 0 exactly when it holds a mismatching pin. -/
theorem equalityJudgesPinByPin : Obligations.EqualityJudgesPinByPin := by
  intro cfg part observed i hkind hi
  refine ⟨hasMixedLane_of_eq part hkind, ?_⟩
  rw [laneFails_of_eq part observed i hkind, laneValue_ne_zero_iff hi]
  simp only [getLsbD_eqMismatch]

/-! ## The comparator under a magnitude kind (R14) -/

/-- A COMPARED lane fails exactly when the relation its kind names does not hold between the pins as observed and as
expected. -/
theorem laneFails_of_compared {cfg : PortCfg} {part : PortPart} (observed : HW) {i : Nat} (hkind : cfg.kind ≠ .eq)
    (hclass : laneClass cfg.width.pins part i = .compared) :
    laneFails cfg part observed i =
      !laneHolds cfg.kind cfg.width.pins
        (observed.extractLsb' (16 - (i + 1) * cfg.width.pins) cfg.width.pins).toNat
        (part.data.extractLsb' (16 - (i + 1) * cfg.width.pins) cfg.width.pins).toNat := by
  simp [laneFails, hkind, hclass, laneValue_eq_toNat_extractLsb']

/-- Equal values meet the relation of every kind (Table 1-8). -/
theorem laneHolds_self (kind : CompareKind) (w x : Nat) : laneHolds kind w x x = true := by
  cases kind <;> simp [laneHolds]

/-! The relations of Table 1-8 on bit vectors: each magnitude kind fails to hold exactly when the opposite strict relation
holds. -/

theorem laneHolds_ule_eq_false {w : Nat} (seen want : BitVec w) :
    laneHolds .ule w seen.toNat want.toNat = false ↔ want.toNat < seen.toNat := by
  simp [laneHolds]

theorem laneHolds_uge_eq_false {w : Nat} (seen want : BitVec w) :
    laneHolds .uge w seen.toNat want.toNat = false ↔ seen.toNat < want.toNat := by
  simp [laneHolds]

theorem laneHolds_sle_eq_false {w : Nat} (seen want : BitVec w) :
    laneHolds .sle w seen.toNat want.toNat = false ↔ want.toInt < seen.toInt := by
  simp [laneHolds, laneSigned_toNat]

theorem laneHolds_sge_eq_false {w : Nat} (seen want : BitVec w) :
    laneHolds .sge w seen.toNat want.toNat = false ↔ seen.toInt < want.toInt := by
  simp [laneHolds, laneSigned_toNat]

/-- Settles O18, kind by kind. -/
theorem magnitudeKindsCompareLaneValues : Obligations.MagnitudeKindsCompareLaneValues := by
  intro cfg part observed i hkind _ hclass w seen want
  have hfails : laneFails cfg part observed i = !laneHolds cfg.kind w seen.toNat want.toNat :=
    laneFails_of_compared observed hkind hclass
  rw [hfails, Bool.not_eq_true']
  refine ⟨fun hule => ?_, fun huge => ?_, fun hsle => ?_, fun hsge => ?_, fun hequal => ?_⟩
  · rw [hule, laneHolds_ule_eq_false]
  · rw [huge, laneHolds_uge_eq_false]
  · rw [hsle, laneHolds_sle_eq_false]
  · rw [hsge, laneHolds_sge_eq_false]
  · rw [hequal, laneHolds_self, Bool.not_true]

end Sys2Proof.Machine
end

section
/-! The segment modifier (02_vector_records_and_timing_sets.md, R29 to R31): a halfword packed lane by lane read back
pin by pin, the target pins of MODTGT, and when the modifier acts on a port. -/

namespace Sys2Proof.Machine

/-! ## Packing lane values (R10) -/

/-- The first `n` lanes of width `w` as a number, each lane's value cut to its `w` bits and put at the lane's pins. -/
def packedLanes (w : Nat) (f : Nat → Nat) (n : Nat) : Nat :=
  ((List.range n).map fun i => f i % 2 ^ w * 2 ^ (16 - (i + 1) * w)).sum

theorem ofLanes_eq_packedLanes (w : Nat) (f : Nat → Nat) :
    ofLanes w f = BitVec.ofNat 16 (packedLanes w f (laneCount w)) := rfl

theorem packedLanes_succ (w : Nat) (f : Nat → Nat) (n : Nat) :
    packedLanes w f (n + 1) = packedLanes w f n + f n % 2 ^ w * 2 ^ (16 - (n + 1) * w) :=
  List.sum_range_succ _ n

/-- The first `n` lanes leave the pins below them 0. -/
theorem two_pow_dvd_packedLanes (w : Nat) (f : Nat → Nat) (n : Nat) : 2 ^ (16 - n * w) ∣ packedLanes w f n := by
  refine List.dvd_sum fun x hx => ?_
  obtain ⟨i, hi, rfl⟩ := List.mem_map.mp hx
  have hle : (i + 1) * w ≤ n * w := Nat.mul_le_mul_right w (List.mem_range.mp hi)
  exact Dvd.dvd.mul_left (pow_dvd_pow 2 (Nat.sub_le_sub_left hle 16)) _

/-- Lane `(15 - k) / w` is the lane that holds pin `k`. -/
theorem lane_of_pin_eq_iff {w n k : Nat} (hw : 0 < w) (hn : (n + 1) * w ≤ 16) (hk : k < 16) :
    (15 - k) / w = n ↔ 16 - (n + 1) * w ≤ k ∧ k < 16 - n * w := by
  rw [Nat.div_eq_iff hw]
  rw [Nat.succ_mul] at hn ⊢
  omega

/-- One more lane fills its own pins and leaves the others: nothing carries, for its value is cut to `w` bits and the
pins below the lanes so far are 0. -/
theorem testBit_packedLanes_succ {w n k : Nat} (f : Nat → Nat) (hw : 0 < w) (hn : (n + 1) * w ≤ 16) (hk : k < 16) :
    (packedLanes w f (n + 1)).testBit k =
      if (15 - k) / w = n then (f n).testBit (k - (16 - (n + 1) * w)) else (packedLanes w f n).testBit k := by
  have hwidth : 16 - n * w = 16 - (n + 1) * w + w := by rw [Nat.succ_mul] at hn ⊢; omega
  have hlt : f n % 2 ^ w * 2 ^ (16 - (n + 1) * w) < 2 ^ (16 - n * w) := by
    rw [hwidth, pow_add, mul_comm]
    exact Nat.mul_lt_mul_of_pos_left (Nat.mod_lt _ (Nat.two_pow_pos w)) (Nat.two_pow_pos _)
  obtain ⟨q, hq⟩ := two_pow_dvd_packedLanes w f n
  rw [packedLanes_succ, hq, Nat.testBit_two_pow_mul_add q hlt, Nat.testBit_two_pow_mul, Nat.testBit_mul_two_pow,
    Nat.testBit_mod_two_pow]
  simp only [lane_of_pin_eq_iff hw hn hk]
  by_cases habove : k < 16 - n * w
  · by_cases hlow : 16 - (n + 1) * w ≤ k
    · simp [habove, hlow, show k - (16 - (n + 1) * w) < w by omega]
    · simp [habove, hlow, show ¬ 16 ≤ k + n * w by omega]
  · simp [habove, Nat.le_of_not_lt habove]

theorem testBit_packedLanes {w n k : Nat} (f : Nat → Nat) (hw : 0 < w) (hn : n * w ≤ 16) (hk : k < 16) :
    (packedLanes w f n).testBit k =
      (decide ((15 - k) / w < n) && (f ((15 - k) / w)).testBit (k - (16 - ((15 - k) / w + 1) * w))) := by
  induction n with
  | zero => simp [packedLanes]
  | succ n ih =>
    rw [testBit_packedLanes_succ f hw hn hk, ih (by rw [Nat.succ_mul] at hn; omega)]
    split
    next hlane => simp [hlane]
    next hlane => simp [show (15 - k) / w < n + 1 ↔ (15 - k) / w < n by omega]

/-- The lanes of a port take up its 16 pins exactly. -/
theorem Width.laneCount_mul_pins (width : Width) : laneCount width.pins * width.pins = 16 := by
  cases width <;> rfl

/-- A pin of a packed halfword is the bit of its lane's value, counted from the lane's lowest pin. -/
theorem getLsbD_ofLanes (width : Width) (f : Nat → Nat) {k : Nat} (hk : k < 16) :
    (ofLanes width.pins f).getLsbD k =
      (f ((15 - k) / width.pins)).testBit (k - (16 - ((15 - k) / width.pins + 1) * width.pins)) := by
  have hfull := width.laneCount_mul_pins
  have hw : 0 < width.pins := Nat.pos_of_ne_zero fun h => by simp [h] at hfull
  have hlane : (15 - k) / width.pins < laneCount width.pins := Nat.div_lt_of_lt_mul (by rw [mul_comm]; omega)
  rw [ofLanes_eq_packedLanes, BitVec.getLsbD_ofNat, testBit_packedLanes f hw hfull.le hk]
  simp [hk, hlane]

/-! ## The write-back (R31) -/

/-- The target pins of the three values of MODTGT (Table 2-7). -/
theorem getLsbD_modTargets {tgt : BitVec 2} (dir : HW) {pin : Nat} (hpin : pin < 16) (htgt : tgt ≠ 3) :
    (modTargets tgt dir).getLsbD pin = true ↔
      tgt = 2 ∨ (tgt = 0 ∧ dir.getLsbD pin = true) ∨ (tgt = 1 ∧ dir.getLsbD pin = false) := by
  obtain rfl | rfl | rfl : tgt = 0 ∨ tgt = 1 ∨ tgt = 2 := by bv_omega
  · simp [modTargets]
  · simp [modTargets, hpin]
  · have hall : (0xFFFF#16).getLsbD pin = true := BitVec.getLsbD_allOnes.trans (decide_eq_true hpin)
    simp [modTargets, hall]

/-- A target pin takes its bit of the lane's result, another keeps its bit as read. -/
theorem getLsbD_modifyData (op : BitVec 3) (tgt : BitVec 2) (width : Width) (k : Nat) (part : PortPart) {pin : Nat}
    (hpin : pin < 16) :
    (modifyData op tgt width.pins k part).getLsbD pin =
      if (modTargets tgt part.dir).getLsbD pin then
        (laneModify op width.pins (laneValue part.data width.pins ((15 - pin) / width.pins)) k).testBit
          (pin - (16 - ((15 - pin) / width.pins + 1) * width.pins))
      else part.data.getLsbD pin := by
  rw [modifyData, BitVec.getLsbD_or, BitVec.getLsbD_and, BitVec.getLsbD_and, BitVec.getLsbD_not,
    getLsbD_ofLanes width _ hpin]
  cases (modTargets tgt part.dir).getLsbD pin <;> simp [hpin]

/-! ## Where the modifier acts (R29, Table 2-5) -/

theorem modifyPart_of_acts {e : SegImage} {p : Port} {k : Nat} (cfg : PortCfg) (part : PortPart)
    (hacts : (segModports e).getLsbD p.val = true ∧ k ≠ 0 ∧ segModop e ≠ 0) :
    modifyPart e cfg p k part =
      { part with data := modifyData (segModop e) (segModtgt e) cfg.width.pins k part } :=
  if_pos (by simpa [and_assoc] using hacts)

theorem modifyPart_of_not_acts {e : SegImage} {p : Port} {k : Nat} (cfg : PortCfg) (part : PortPart)
    (hidle : ¬ ((segModports e).getLsbD p.val = true ∧ k ≠ 0 ∧ segModop e ≠ 0)) :
    modifyPart e cfg p k part = part :=
  if_neg (by simpa [and_assoc] using hidle)

@[simp] theorem modifyPart_dir (e : SegImage) (cfg : PortCfg) (p : Port) (k : Nat) (part : PortPart) :
    (modifyPart e cfg p k part).dir = part.dir := by
  unfold modifyPart; split <;> rfl

@[simp] theorem modifyPart_care (e : SegImage) (cfg : PortCfg) (p : Port) (k : Nat) (part : PortPart) :
    (modifyPart e cfg p k part).care = part.care := by
  unfold modifyPart; split <;> rfl

/-- Settles O21: where the modifier acts, the write-back pin by pin, with the packed lanes read back at the pin. -/
theorem modifierReplacesTargetPinsOnly : Obligations.ModifierReplacesTargetPinsOnly := by
  intro e cfg p k part pin hpin w out acts target lane
  refine ⟨modifyPart_dir e cfg p k part, modifyPart_care e cfg p k part, modifyPart_of_not_acts cfg part,
    fun hacts htgt => ?_⟩
  have htarget : (modTargets (segModtgt e) part.dir).getLsbD pin = true ↔ target :=
    getLsbD_modTargets part.dir hpin htgt
  have hdata : out.data.getLsbD pin = (modifyData (segModop e) (segModtgt e) w k part).getLsbD pin := by
    rw [show out = _ from modifyPart_of_acts cfg part hacts]
  rw [hdata, getLsbD_modifyData _ _ cfg.width k part hpin]
  exact ⟨fun hpinTarget => if_pos (htarget.mpr hpinTarget), fun hother => if_neg (mt htarget.mp hother)⟩

end Sys2Proof.Machine
end

section
/-! The run commands (06_run_control.md): the outcome of a command that the window takes, accepted or refused (R180), and
CLEAR by the sequencer's state (R125). -/

namespace Sys2Proof.Machine

/-! ## A command's outcome (R180) -/

/-- With RESET_N high a cause sets its flag. -/
theorem raise_of_reset_high (f : EvFlag) {s : State} (hreset : s.resetLow = false) :
    raise f s = Claims.withFlag f.bit s := by
  simp [raise, hreset, Claims.withFlag]

theorem acceptCmd_takeCmd (cmd : HW) (s : State) : acceptCmd (takeCmd cmd s) = Claims.accepted cmd s := rfl

theorem refuseCmd_takeCmd (cmd : HW) (code : Status) {s : State} (hfree : busFree s = true) :
    refuseCmd code (takeCmd cmd s) = Claims.refusedCmd cmd code s := by
  obtain ⟨hreset, _⟩ := busFree_iff.mp hfree
  exact raise_of_reset_high .windowError hreset

/-- A command that the window takes becomes its owner's effect on the state in which CMD holds the code. -/
theorem command_becomes {cmd : HW} {f : State → State} {s t : State} (hfree : busFree s = true)
    (heffect : f (takeCmd cmd s) = t) : Claims.Becomes (command cmd f s) t := by
  rw [Claims.Becomes, command_taken cmd f hfree, heffect]

/-! ## CLEAR (R125) -/

theorem exec_clear (s : State) : exec .clear s = command 0x07 clearEnded s := rfl

/-- In ENDED and FAULTED CLEAR is accepted. -/
theorem clearEnded_of_over {s : State} (hover : s.run.state = .ended ∨ s.run.state = .faulted) :
    clearEnded s = { acceptCmd s with run.state := .idle, run.cause := .none } := by
  obtain hended | hfaulted := hover
  · rw [clearEnded, hended]; rfl
  · rw [clearEnded, hfaulted]; rfl

/-- In every other state CLEAR is refused. -/
theorem clearEnded_of_not_over {s : State} (hended : s.run.state ≠ .ended) (hfaulted : s.run.state ≠ .faulted) :
    clearEnded s = refuseCmd .wrongState s := by
  unfold clearEnded
  split
  case h_1 hstate => exact absurd hstate hended
  case h_2 hstate => exact absurd hstate hfaulted
  all_goals rfl

/-- Settles O26, by the two branches of CLEAR. -/
theorem clearReturnsToIdle : Obligations.ClearReturnsToIdle := by
  refine fun s hfree => ⟨fun hover => ?accepted, fun hended hfaulted => ?refused⟩
  case accepted =>
    rw [exec_clear]
    apply command_becomes hfree
    rw [clearEnded_of_over (s := takeCmd 0x07 s) hover, acceptCmd_takeCmd]
  case refused =>
    rw [exec_clear]
    apply command_becomes hfree
    rw [clearEnded_of_not_over (s := takeCmd 0x07 s) hended hfaulted, refuseCmd_takeCmd 0x07 .wrongState hfree]

end Sys2Proof.Machine
end

section
/-! The trigger lines (08_trigger_lines.md): the outcome of a register write that the window takes, refused by its first
failing check or passed (R177), and TRGSTAT (R153). -/

namespace Sys2Proof.Machine

/-! ## A register write's outcome (R177) -/

@[simp] theorem firstRefusal_nil : firstRefusal [] = none := rfl

@[simp] theorem firstRefusal_cons_fails (code : Status) (rest : List (Bool × Status)) :
    firstRefusal ((true, code) :: rest) = some code := rfl

@[simp] theorem firstRefusal_cons_passes (code : Status) (rest : List (Bool × Status)) :
    firstRefusal ((false, code) :: rest) = firstRefusal rest := rfl

/-- With the bus free a refusal sets WINDOW_ERROR, for RESET_N is high. -/
theorem refuseAccess_of_busFree (code : Status) (offset : BitVec 7) {s : State} (hfree : busFree s = true) :
    refuseAccess code offset s = Claims.refusedAccess code offset s := by
  obtain ⟨hreset, _⟩ := busFree_iff.mp hfree
  exact raise_of_reset_high .windowError hreset

/-- A register write that the window takes and whose checks pass becomes its effect. -/
theorem registerAccess_becomes_of_passes {refusal : State → Option Status} {offset : BitVec 7} {f : State → State}
    {s : State} (hfree : busFree s = true) (hpasses : refusal s = none) :
    Claims.Becomes (registerAccess refusal offset f s) (f s) := by
  rw [Claims.Becomes, registerAccess_taken _ _ _ hfree, hpasses, accessUnless_passed]

/-- A register write that the window takes and whose checks refuse it becomes the refused access. -/
theorem registerAccess_becomes_of_refused {refusal : State → Option Status} {offset : BitVec 7} {f : State → State}
    {s : State} {code : Status} (hfree : busFree s = true) (hrefused : refusal s = some code) :
    Claims.Becomes (registerAccess refusal offset f s) (Claims.refusedAccess code offset s) := by
  rw [Claims.Becomes, registerAccess_taken _ _ _ hfree, hrefused, accessUnless_refused,
    refuseAccess_of_busFree _ _ hfree]

/-! ## TRGSTAT (R153) -/

theorem exec_trgstatWrite (v : HW) (s : State) : exec (.trgstatWrite v) s = execTrgstatWrite v s := rfl

/-- Settles O36, by the one check of TRGSTAT: the value passes it below 16 and is refused from 16 on. -/
theorem trgstatWriteClearsLatches : Obligations.TrgstatWriteClearsLatches := by
  refine fun s v hfree => ⟨fun hlatches => ?cleared, fun habove => ?refused⟩
  case cleared =>
    have hpasses : firstRefusal [(decide (16 ≤ v.toNat), .badArg)] = none := by simp [Nat.not_le.mpr hlatches]
    rw [exec_trgstatWrite, BitVec.setWidth_eq_extractLsb' (by decide)]
    exact registerAccess_becomes_of_passes hfree hpasses
  case refused =>
    have hrefused : firstRefusal [(decide (16 ≤ v.toNat), .badArg)] = some .badArg := by simp [habove]
    rw [exec_trgstatWrite]
    exact registerAccess_becomes_of_refused hfree hrefused

end Sys2Proof.Machine
end

section
/-! The interrupt line (11_events_and_the_interrupt_line.md): when IRQ_N is asserted, and what a read of EVCTL returns of it
(R193, R194). -/

namespace Sys2Proof.Machine

/-! ## The line (R194) -/

/-- Two bit vectors have a set bit in common, as a flag and its enable, exactly when their AND is not 0. -/
theorem and_ne_zero_iff_exists_bit {w : Nat} (x y : BitVec w) :
    x &&& y ≠ 0 ↔ ∃ k, x.getLsbD k = true ∧ y.getLsbD k = true := by
  constructor
  · intro hne
    by_contra hnone
    refine hne (BitVec.eq_of_getLsbD_eq fun k _ => ?_)
    rw [BitVec.getLsbD_and, BitVec.ofNat_eq_ofNat, BitVec.getLsbD_zero, Bool.eq_false_iff, ne_eq, Bool.and_eq_true]
    exact fun hboth => hnone ⟨k, hboth⟩
  · rintro ⟨k, hx, hy⟩ hzero
    have hbit : (x &&& y).getLsbD k = true := by rw [BitVec.getLsbD_and, hx, hy, Bool.and_true]
    simp [hzero] at hbit

/-- While RESET_N is low the line is not driven. -/
theorem irqAsserted_of_reset_low {s : State} (hreset : s.resetLow = true) : irqAsserted s = false := by
  simp [irqAsserted, hreset]

/-- While RESET_N is high the line follows MASTER and the enabled flags. -/
theorem irqAsserted_iff {s : State} (hreset : s.resetLow = false) :
    irqAsserted s = true ↔
      s.ev.master = true ∧ ∃ k, s.ev.flags.getLsbD k = true ∧ s.ev.enables.getLsbD k = true := by
  rw [← and_ne_zero_iff_exists_bit]
  simp [irqAsserted, hreset]

/-! ## EVCTL (R193) -/

/-- The two lowest bits of a halfword packed as EVCTL is. -/
theorem getLsbD_packedBits (low high : Bool) :
    (BitVec.ofNat 16 (bit low + 2 * bit high)).getLsbD 0 = low ∧
    (BitVec.ofNat 16 (bit low + 2 * bit high)).getLsbD 1 = high := by
  cases low <;> cases high <;> decide

/-- EVCTL holds MASTER at bit 0. -/
theorem getLsbD_evctlValue_master (s : State) : (evctlValue s).getLsbD 0 = s.ev.master :=
  (getLsbD_packedBits s.ev.master (irqAsserted s)).1

/-- EVCTL holds ASSERTED, the condition of the line, at bit 1. -/
theorem getLsbD_evctlValue_asserted (s : State) : (evctlValue s).getLsbD 1 = irqAsserted s :=
  (getLsbD_packedBits s.ev.master (irqAsserted s)).2

/-- EVCTL's offset belongs to no pair. -/
theorem readPair_evctl (s : State) : readPair s 0x0E = none := rfl

/-- With RESET_N high a read of EVCTL's offset returns EVCTL. -/
theorem readRegister_evctl {s : State} (pads : Vector HW 4) (trgPads : BitVec 4) (hreset : s.resetLow = false) :
    readRegister s pads trgPads 0x0E = some (evctlValue s) := by
  have hanswered : ¬(s.resetLow = true ∨ (0x0E : BitVec 7) = 0x12) := by simp [hreset]
  rw [readRegister, if_neg hanswered, readPair_evctl]
  rfl

/-- Settles O41, by the line's condition with RESET_N high and the two bits of EVCTL. -/
theorem interruptLineFollowsFlagsEnablesAndMaster : Obligations.InterruptLineFollowsFlagsEnablesAndMaster := by
  refine fun s pads trgPads => ⟨irqAsserted_of_reset_low, irqAsserted_iff, fun hreset => ?evctl⟩
  case evctl =>
    refine ⟨evctlValue s, readRegister_evctl pads trgPads hreset, ?asserted, getLsbD_evctlValue_master s⟩
    rw [getLsbD_evctlValue_asserted]
    exact irqAsserted_iff hreset

end Sys2Proof.Machine
end

section
/-! What one step can do, said once for the safety properties: the rows that change nothing a safety property reads, the
other rows by their shared operations, and the induction over a step that each property's proof uses. -/

namespace Sys2Proof.Machine

/-! ## Updates that no safety property reads -/

/-- An update of a taken host access that leaves every field a safety property reads while RESET_N is high: settings,
staging, trigger lines, event unit, and the window's registers. -/
structure QuietUpdate (s t : State) : Prop where
  ports : t.ports = s.ports
  walker : t.walker = s.walker
  queue : t.queue = s.queue
  app : t.app = s.app
  state : t.run.state = s.run.state
  cause : t.run.cause = s.run.cause
  fault : t.run.fault = s.run.fault
  drainAborted : t.run.drainAborted = s.run.drainAborted
  log : t.log = s.log
  zones : t.mem.zones = s.mem.zones
  msize : t.mem.msize = s.mem.msize
  owed : t.mem.owed = s.mem.owed
  passover : t.mem.passover = s.mem.passover
  grant : t.mem.grant = s.mem.grant
  dram : t.dram = s.dram
  posted : t.win.posted = s.win.posted
  ahead : t.win.ahead = s.win.ahead
  fetch : t.win.fetch = s.win.fetch
  resetLow : t.resetLow = s.resetLow
  pending : t.pending = s.pending

theorem QuietUpdate.refl (s : State) : QuietUpdate s s := by constructor <;> rfl

theorem QuietUpdate.trans {s t u : State} (h : QuietUpdate s t) (k : QuietUpdate t u) : QuietUpdate s u where
  ports := k.ports.trans h.ports
  walker := k.walker.trans h.walker
  queue := k.queue.trans h.queue
  app := k.app.trans h.app
  state := k.state.trans h.state
  cause := k.cause.trans h.cause
  fault := k.fault.trans h.fault
  drainAborted := k.drainAborted.trans h.drainAborted
  log := k.log.trans h.log
  zones := k.zones.trans h.zones
  msize := k.msize.trans h.msize
  owed := k.owed.trans h.owed
  passover := k.passover.trans h.passover
  grant := k.grant.trans h.grant
  dram := k.dram.trans h.dram
  posted := k.posted.trans h.posted
  ahead := k.ahead.trans h.ahead
  fetch := k.fetch.trans h.fetch
  resetLow := k.resetLow.trans h.resetLow
  pending := k.pending.trans h.pending

theorem refuseAccess_quiet (code : Status) (offset : BitVec 7) (s : State) :
    QuietUpdate s (refuseAccess code offset s) := by constructor <;> simp

theorem refuseCmd_quiet (code : Status) (s : State) : QuietUpdate s (refuseCmd code s) := by constructor <;> simp

theorem acceptCmd_quiet (s : State) : QuietUpdate s (acceptCmd s) := by constructor <;> simp

theorem acceptCmdWith_quiet (result : HW) (s : State) : QuietUpdate s (acceptCmdWith result s) := by
  constructor <;> simp

theorem takeCmd_quiet (cmd : HW) (s : State) : QuietUpdate s (takeCmd cmd s) := by constructor <;> simp

/-! ## The rows, by what they do -/

/-- What a row does before the arbiter's decision, but for quiet updates that a host access makes first: one constructor
for each shared operation that a safety property can see, with the condition under which the row makes it. -/
inductive RowEffect (s : State) : State → Prop
  | quiet {t : State} (high : s.resetLow = false) (h : QuietUpdate s t) : RowEffect s t
  | start (high : s.resetLow = false) (checks : startRefusal false s = none) : RowEffect s (startRun s)
  | arm (high : s.resetLow = false) (checks : startRefusal true s = none) : RowEffect s (armRun s)
  | pause (high : s.resetLow = false) (hstate : s.run.state = .running ∨ s.run.state = .waiting)
      (suspended : Option Cause) : RowEffect s (enterPaused .host suspended s)
  | rewait (high : s.resetLow = false) (hstate : s.run.state = .paused) (cause : Cause) :
      RowEffect s (enterWaiting cause (restartWaitPeriod s))
  | restall (high : s.resetLow = false) (hstate : s.run.state = .paused) : RowEffect s (enterWaiting .notReady s)
  | reprime (high : s.resetLow = false) (hstate : s.run.state = .paused) : RowEffect s (enterPriming s)
  | abort (high : s.resetLow = false) (hstate : s.run.state.atRest = false) : RowEffect s (stopRun .abort s)
  | shorten (high : s.resetLow = false) (hstate : s.run.state = .stopping) (first : s.run.drainAborted = false) :
      RowEffect s (shortenDrain s)
  | clear (high : s.resetLow = false) (hstate : s.run.state = .ended ∨ s.run.state = .faulted) :
      RowEffect s { s with run.state := .idle, run.cause := .none }
  | ready (high : s.resetLow = false) (n : SegIdx) : RowEffect s (readyPending n s)
  | ringMoved (high : s.resetLow = false) (idle : runActive s = false) (base : Addr) (size : BitVec 25)
      (hsize : size = s.log.size ∨ 64 ≤ size.toNat ∧ size.toNat ≤ 16777216) :
      RowEffect s { s with log.base := base, log.size := size, log.wp := 0, log.rp := 0 }
  | loglevel (high : s.resetLow = false) (level : BitVec 24) : RowEffect s { s with log.level := level }
  | logrp (high : s.resetLow = false) (v : Word) (good : logrpBad s v.toNat = false) :
      RowEffect s { s with log.rp := v.setWidth 24 }
  | memop (high : s.resetLow = false) (op : MemOp) : RowEffect s (startMemop op s)
  | discard {t : State} (high : s.resetLow = false) (h : QuietUpdate (discardAhead s) t) : RowEffect s t
  | softReset (high : s.resetLow = false) (n : Nat) :
      RowEffect s (softResetRun (softResetWindow (endWriterGrant n s)))
  | portcfg (high : s.resetLow = false) (idle : runActive s = false) (p : Port) (cfg : PortCfg) :
      RowEffect s (setPortCfg p cfg s)
  | zone (high : s.resetLow = false) (z : Zone) (good : zoneBad s s.mem.zonesel z = false) :
      RowEffect s { s with mem.zones := s.mem.zones.set s.mem.zonesel z }
  | serveRead (high : s.resetLow = false) : RowEffect s (serveRead s)
  | fetchForRead (high : s.resetLow = false) : RowEffect s (fetchForRead s)
  | postWrite (high : s.resetLow = false) (v : HW) (place : s.win.posted.length < 8) : RowEffect s (postWrite v s)
  | arrive (hst : s.walker.st = .walking) (i : SegIdx) (loopBack : Bool) : RowEffect s (walkerArrive i loopBack s)
  | pushWait (hst : s.walker.st = .walking) (c : CurrentEntry) : RowEffect s (pushWaitItem c s)
  | fetchZone (hst : s.walker.st = .walking) : RowEffect s (pushFault .fetchZone s.walker.tags s)
  | fetched (hst : s.walker.st = .walking) (hgrant : s.mem.grant = some (.walker true)) (c : CurrentEntry) :
      RowEffect s (fetchRecord c.img (freePort s))
  | unfetched (live : Bool) (hgrant : s.mem.grant = some (.walker live)) : RowEffect s (freePort s)
  | leave (hst : s.walker.st = .walking) (c : CurrentEntry) : RowEffect s (leaveNormally c s)
  | leaveAlt (hst : s.walker.st = .walking) (c : CurrentEntry) : RowEffect s (leaveThroughAlt c s)
  | taking (hstate : s.run.state = .running ∨ s.run.state = .armed) : RowEffect s (taking s)
  | endPeriod (p : Period) (hperiod : s.app.period = some p) : RowEffect s (endPeriod p s)
  | driveEdge (p : Period) (hperiod : s.app.period = some p) : RowEffect s (driveEdge p s)
  | strobe (p : Period) (hperiod : s.app.period = some p) (pads : Vector HW 4) : RowEffect s (strobe p pads s)
  | matchSample (hstate : s.run.state = .waiting) (w : WaitProgress) (hwait : s.app.wait = some w)
      (pads : Vector HW 4) : RowEffect s (matchSample w pads s)
  | endWaitPeriod (hstate : s.run.state = .waiting) (w : WaitProgress) (hwait : s.app.wait = some w) :
      RowEffect s (endWaitPeriod w s)
  | satisfyWait (hstate : s.run.state = .waiting) (w : WaitProgress) (hwait : s.app.wait = some w) :
      RowEffect s (satisfyWait w s)
  | starved (hstate : s.run.state = .waiting) : RowEffect s (stopOnFault .starveTimeout (starvePosition s) s)
  | published (hgrant : s.mem.grant = some .writer) (r : LogRecord) (rest : List LogRecord)
      (hfifo : s.log.fifo = r :: rest) : RowEffect s (publish r rest (freePort s))
  | unpublished (hgrant : s.mem.grant = some .writer) (hfifo : s.log.fifo = []) : RowEffect s (freePort s)
  | owe (below : s.mem.owed < 8) : RowEffect s { s with mem.refTimer := 0, mem.owed := s.mem.owed + 1 }
  | miss : RowEffect s (missRefresh { s with mem.refTimer := 0 })
  | refreshed (hgrant : s.mem.grant = some .refresh) : RowEffect s { freePort s with mem.owed := s.mem.owed - 1 }
  | initialized (high : s.resetLow = false) :
      RowEffect s (raise .memReady { s with mem.ready := true, mem.owed := 0, mem.refTimer := 0 })
  | drained (ws : List PostedWrite) (live : Bool) (hgrant : s.mem.grant = some (.window (.drain ws live))) :
      RowEffect s (drainNext live s ws)
  | endFetch (a n : Nat) (live : Bool) (hgrant : s.mem.grant = some (.window (.fetch a n live))) :
      RowEffect s (endFetch a n live s)
  | windowFreed {t : State} (u : WinUnit) (hgrant : s.mem.grant = some (.window u)) (h : QuietUpdate (freePort s) t) :
      RowEffect s t
  | windowWrote {t : State} (u : WinUnit) (hgrant : s.mem.grant = some (.window u)) (a : Nat) (vs : List HW)
      (h : QuietUpdate (writeHalves a vs (freePort s)) t) : RowEffect s t
  | resetFalls (high : s.resetLow = false) (n : Nat) : RowEffect s (resetN n s)
  | resetRises (low : s.resetLow = true) : RowEffect s { s with resetLow := false, mem.initTicks := 0 }

/-- What a row does: an effect, after quiet updates of a host access. -/
def Acts (s t : State) : Prop := ∃ u, (u = s ∨ s.resetLow = false ∧ QuietUpdate s u) ∧ RowEffect u t

theorem RowEffect.acts {s t : State} (h : RowEffect s t) : Acts s t := ⟨s, .inl rfl, h⟩

theorem QuietUpdate.acts {s t : State} (high : s.resetLow = false) (h : QuietUpdate s t) : Acts s t :=
  (RowEffect.quiet high h).acts

theorem Acts.after {s u t : State} (high : s.resetLow = false) (h : QuietUpdate s u) (k : Acts u t) : Acts s t := by
  obtain ⟨v, rfl | ⟨_, hv⟩, heffect⟩ := k
  · exact ⟨v, .inr ⟨high, h⟩, heffect⟩
  · exact ⟨v, .inr ⟨high, h.trans hv⟩, heffect⟩

theorem QuietUpdate.then {s u t : State} (high : s.resetLow = false) (h : QuietUpdate s u) (k : RowEffect u t) :
    Acts s t := k.acts.after high h

/-- A row's outcome: nothing, or what it does and then the arbiter's decision, or the power-on reset. -/
inductive RowOutcome (s : State) : State → Prop
  | unchanged : RowOutcome s s
  | acts {t : State} (h : Acts s t) : RowOutcome s (arbitrate t)
  | por (msize : BitVec 2) :
      RowOutcome s { State.porWith msize s.free with resetLow := s.resetLow, pending := s.pending }

/-! ## The forms of a row -/

theorem hostAccess_outcome {f : State → State} {s t : State}
    (h : hostAccess f s = .next t) (hacts : s.resetLow = false → Acts s (f s)) : RowOutcome s t := by
  cases hfree : busFree s with
  | true =>
    rw [hostAccess_taken f hfree] at h
    obtain rfl := Host.Outcome.next.inj h
    exact .acts (hacts (busFree_iff.mp hfree).1)
  | false =>
    rw [hostAccess_closed f hfree] at h
    obtain rfl := Host.Outcome.next.inj h
    exact .unchanged

theorem eventStep_outcome {occurs : Bool} {f : State → State} {s t : State}
    (h : eventStep occurs f s = .next t) (hacts : occurs = true → Acts s (f s)) : RowOutcome s t := by
  cases occurs with
  | true =>
    obtain rfl := Host.Outcome.next.inj (eventStep_occurs.symm.trans h)
    exact .acts (hacts rfl)
  | false =>
    obtain rfl := Host.Outcome.next.inj (eventStep_absent.symm.trans h)
    exact .unchanged

theorem command_outcome {code : HW} {f : State → State} {s t : State}
    (h : command code f s = .next t) (hacts : ∀ u : State, u.resetLow = false → Acts u (f u)) : RowOutcome s t :=
  hostAccess_outcome h fun high => (hacts (takeCmd code s) high).after high (takeCmd_quiet code s)

theorem registerAccess_outcome {refusal : State → Option Status} {offset : BitVec 7} {f : State → State} {s t : State}
    (h : registerAccess refusal offset f s = .next t) (hacts : s.resetLow = false → refusal s = none → Acts s (f s)) :
    RowOutcome s t := by
  refine hostAccess_outcome h fun high => ?_
  cases hrefusal : refusal s with
  | none => exact hacts high hrefusal
  | some code => exact (refuseAccess_quiet code offset s).acts high

theorem cmdUnless_acts {refusal : Option Status} {f : State → State} {s : State} (high : s.resetLow = false)
    (hacts : refusal = none → Acts s (f s)) : Acts s (cmdUnless refusal f s) := by
  cases refusal with
  | none => exact hacts rfl
  | some code => exact (refuseCmd_quiet code s).acts high

/-- Checks pass when none of them fails. -/
theorem firstRefusal_eq_none_iff {checks : List (Bool × Status)} :
    firstRefusal checks = none ↔ ∀ c ∈ checks, c.1 = false := by
  induction checks with
  | nil => simp
  | cons c rest ih =>
    obtain ⟨fails, code⟩ := c
    cases fails <;> simp [ih]

/-- The checks of a register under the configuration lock pass only outside a run. -/
theorem lockedCheck_none {bad : Bool} {s : State} (h : lockedCheck bad s = none) :
    runActive s = false ∧ bad = false := by
  simpa using firstRefusal_eq_none_iff.mp h

/-! ## The run commands -/

theorem startRun_acts {s : State} (high : s.resetLow = false) :
    Acts s (cmdUnless (startRefusal false s) startRun s) :=
  cmdUnless_acts high fun hchecks => (RowEffect.start high hchecks).acts

theorem armRun_acts {s : State} (high : s.resetLow = false) :
    Acts s (cmdUnless (startRefusal true s) armRun s) :=
  cmdUnless_acts high fun hchecks => (RowEffect.arm high hchecks).acts

theorem pauseRun_acts {s : State} (high : s.resetLow = false) : Acts s (pauseRun s) := by
  have haccept : QuietUpdate s (acceptCmd { s with run.stepReq := false }) := by constructor <;> rfl
  unfold pauseRun
  split
  case h_1 hrunning =>
    simp only
    split
    · exact QuietUpdate.acts high (by constructor <;> rfl)
    · refine haccept.then high (.pause ?_ ?_ none)
      exacts [high, .inl hrunning]
  case h_2 hwaiting =>
    refine haccept.then high (.pause ?_ ?_ _)
    exacts [high, .inr hwaiting]
  all_goals exact (refuseCmd_quiet .wrongState s).acts high

theorem resumeRun_acts {s : State} (high : s.resetLow = false) (hpaused : s.run.state = .paused) :
    Acts s (resumeRun s) := by
  unfold resumeRun
  split
  · split
    · exact (RowEffect.restall high hpaused).acts
    · exact QuietUpdate.then high (by constructor <;> rfl) (.reprime high hpaused)
  · exact (RowEffect.rewait high hpaused _).acts
  · exact (RowEffect.reprime high hpaused).acts

theorem notPaused_none {s : State} (h : notPaused s = none) : s.run.state = .paused := by
  simpa [notPaused] using h

theorem abortRun_acts {s : State} (high : s.resetLow = false) : Acts s (abortRun s) := by
  have hstop : s.run.state.atRest = false → Acts s (stopRun .abort (acceptCmd s)) := fun hplays =>
    (acceptCmd_quiet s).then high (.abort high hplays)
  unfold abortRun
  split
  case h_5 hstopping =>
    split
    · exact (acceptCmd_quiet s).acts high
    next hfirst =>
      exact (acceptCmd_quiet s).then high (.shorten high hstopping (by simpa using hfirst))
  case h_1 hstate | h_2 hstate | h_3 hstate | h_4 hstate => exact hstop (by rw [hstate]; rfl)
  all_goals exact (refuseCmd_quiet .wrongState s).acts high

theorem clearEnded_acts {s : State} (high : s.resetLow = false) : Acts s (clearEnded s) := by
  unfold clearEnded
  split
  case h_1 hended => exact (acceptCmd_quiet s).then high (.clear high (.inl hended))
  case h_2 hfaulted => exact (acceptCmd_quiet s).then high (.clear high (.inr hfaulted))
  all_goals exact (refuseCmd_quiet .wrongState s).acts high

/-! ## The segment commands -/

theorem segCommand_acts {changes : Bool} {f : SegIdx → State → State} {s : State} (high : s.resetLow = false)
    (hacts : ∀ n u, u.resetLow = false → Acts u (f n u)) : Acts s (segCommand changes f s) := by
  unfold segCommand
  split
  · exact (refuseCmd_quiet .badArg s).acts high
  next n _ =>
    split
    · exact (refuseCmd_quiet .segInUse s).acts high
    · exact Acts.after high (acceptCmdWith_quiet _ s) (hacts n _ (by exact high))

theorem segWriteAt_acts (n : SegIdx) {s : State} (high : s.resetLow = false) : Acts s (segWriteAt n s) := by
  have hput : QuietUpdate s { s with seg.entries := s.seg.entries.set n s.seg.stage } := by constructor <;> rfl
  unfold segWriteAt
  simp only
  split
  · exact hput.then high (.ready (by exact high) n)
  · exact hput.acts high

theorem setEntryReady_quiet (n : SegIdx) (b : Bool) (s : State) : QuietUpdate s (setEntryReady n b s) := by
  constructor <;> rfl

/-! ## The registers -/

/-- A pair's value in range passes the range check as it is. -/
theorem logsize_of_good {v : Word} (h : logsizeBad v = false) :
    64 ≤ (v.setWidth 25).toNat ∧ (v.setWidth 25).toNat ≤ 16777216 := by
  simp only [logsizeBad, Bool.or_eq_false_iff, decide_eq_false_iff_not] at h
  rw [BitVec.toNat_setWidth, Nat.mod_eq_of_lt (by omega)]
  omega

theorem logbaseWrite_acts {high : HW} {s : State} (hhigh : s.resetLow = false) (hidle : runActive s = false) :
    Acts s (let v : Addr := (joined s .logbase high).setWidth 25
      if v = s.log.base then s else { s with log.base := v, log.wp := 0, log.rp := 0 }) := by
  simp only
  split
  · exact (QuietUpdate.refl s).acts hhigh
  · exact (RowEffect.ringMoved hhigh hidle _ s.log.size (.inl rfl)).acts

theorem logsizeWrite_acts {high : HW} {s : State} (hhigh : s.resetLow = false) (hidle : runActive s = false)
    (hgood : logsizeBad (joined s .logsize high) = false) :
    Acts s (let v : BitVec 25 := (joined s .logsize high).setWidth 25
      if v = s.log.size then s else { s with log.size := v, log.wp := 0, log.rp := 0 }) := by
  simp only
  split
  · exact (QuietUpdate.refl s).acts hhigh
  · exact (RowEffect.ringMoved hhigh hidle s.log.base _ (.inr (logsize_of_good hgood))).acts

/-- The checks of a zone descriptor write pass for a permitted descriptor outside a run. -/
theorem zoneRefusal_none {r : ZoneReg} {v : HW} {s : State} (h : zoneRefusal r v s = none) :
    runActive s = false ∧ zoneWriteBad s r v = false := by
  have hchecks := firstRefusal_eq_none_iff.mp h
  simp only [List.forall_mem_cons] at hchecks
  obtain ⟨hidle, _, _, hgood, _⟩ := hchecks
  exact ⟨hidle, hgood⟩

theorem zoneDescriptorWrite_acts {r : ZoneReg} {v : HW} {s : State} (high : s.resetLow = false)
    (h : zoneRefusal r v s = none) :
    Acts s (match zoneWritten s.mem.zones[s.mem.zonesel] r (zoneValue s r v) with
      | some z => { s with mem.zones := s.mem.zones.set s.mem.zonesel z }
      | none => s) := by
  obtain ⟨_, hgood⟩ := zoneRefusal_none h
  unfold zoneWriteBad at hgood
  split
  next z hz =>
    rw [hz] at hgood
    exact (RowEffect.zone high z hgood).acts
  · exact (QuietUpdate.refl s).acts high

theorem portcfgWrite_acts {p : Port} {v : HW} {s : State} (high : s.resetLow = false) (hidle : runActive s = false) :
    Acts s (match parsePortCfg v with | some cfg => setPortCfg p cfg s | none => s) := by
  split
  · exact (RowEffect.portcfg high hidle p _).acts
  · exact (QuietUpdate.refl s).acts high

theorem trgcfgWrite_acts {v : HW} {s : State} (high : s.resetLow = false) :
    Acts s (match parseTrgCfg v with
      | some lines => { s with trig.lines := lines, trig.active := 0 }
      | none => s) := by
  refine QuietUpdate.acts high ?_
  split <;> constructor <;> rfl

theorem memstatWrite_acts {v : HW} {s : State} (high : s.resetLow = false) :
    Acts s (if v.getLsbD 7 then { s with mem.refmiss := false } else s) := by
  refine QuietUpdate.acts high ?_
  split <;> constructor <;> rfl

theorem cargWrite_acts {offset : BitVec 7} {v : HW} {s : State} (high : s.resetLow = false) :
    Acts s (match cargAt offset with
      | some i => { s with win.carg := s.win.carg.set i v }
      | none => s) := by
  refine QuietUpdate.acts high ?_
  split <;> constructor <;> rfl

/-! ## The window engine -/

theorem startPatch_acts {s : State} (high : s.resetLow = false) : Acts s (startPatch s) :=
  (RowEffect.discard high (by constructor <;> rfl)).acts

theorem cancelMemop_quiet (s : State) : QuietUpdate s (cancelMemop s) := by constructor <;> rfl

theorem memopCancel_acts {s : State} (high : s.resetLow = false) :
    Acts s (if !memopBusy s then refuseCmd .wrongState s
      else if burstInProgress s then { s with win.access := some .cancel }
      else cancelMemop s) := by
  refine QuietUpdate.acts high ?_
  split
  · exact refuseCmd_quiet .wrongState s
  · split
    · constructor <;> rfl
    · exact cancelMemop_quiet s

theorem acceptRead_acts {s : State} (high : s.resetLow = false) : Acts s (acceptRead s) := by
  have hheld : QuietUpdate s { s with win.access := some .wdataRead } := by constructor <;> rfl
  unfold acceptRead
  split
  · exact hheld.acts high
  · split
    · exact (RowEffect.serveRead high).acts
    · exact hheld.then high (.fetchForRead high)

theorem wdataRead_acts {s : State} (high : s.resetLow = false) :
    Acts s (match wdataReadRefusal s with
      | some code => refuseAccess code 0x12 { s with win.busData := 0 }
      | none => acceptRead s) := by
  split
  · exact QuietUpdate.acts high ((by constructor <;> rfl : QuietUpdate s { s with win.busData := 0 }).trans
      (refuseAccess_quiet _ _ _))
  · exact acceptRead_acts high

theorem wdataWrite_acts {v : HW} {s : State} (high : s.resetLow = false) :
    Acts s (if 8 ≤ s.win.posted.length then { s with win.access := some (.wdataWrite v) } else takeWrite v s) := by
  split
  · exact QuietUpdate.acts high (by constructor <;> rfl)
  next hplace =>
    unfold takeWrite accessUnless
    split
    · exact (refuseAccess_quiet _ _ s).acts high
    · exact (RowEffect.postWrite high v (Nat.lt_of_not_le hplace)).acts

/-- The window's unit in the grant is the window's grant. -/
theorem grant_of_windowUnit {s : State} {u : WinUnit} (h : windowUnit s = some u) :
    s.mem.grant = some (.window u) := by
  unfold windowUnit at h
  split at h
  next hgrant => rw [hgrant, Option.some.inj h]
  · cases h

theorem endLiveBurst_quiet (s : State) : QuietUpdate s (endLiveBurst s) := by
  unfold endLiveBurst
  split
  · exact cancelMemop_quiet s
  · split
    · constructor <;> simp
    · exact .refl s

theorem endBurst_quiet (n : Nat) (o : Owner) (s : State) : QuietUpdate s (endBurst n o s) := by
  have hcount : QuietUpdate s (countBurst n s) := by constructor <;> rfl
  unfold endBurst
  split
  · exact hcount.trans (endLiveBurst_quiet _)
  · split
    · exact hcount
    · exact .refl s

theorem holdCopied_quiet (data : List HW) (s : State) : QuietUpdate s (holdCopied data s) := by
  constructor <;> simp

theorem dropCopied_quiet (o : Owner) (s : State) : QuietUpdate s (dropCopied o s) := by constructor <;> simp

theorem readHalves_quiet (n a : Nat) (s : State) : QuietUpdate s (readHalves n a s).2 := by constructor <;> simp

theorem endCopyRead_quiet (src dst n : Nat) (o : Owner) (s : State) :
    QuietUpdate (freePort s) (endCopyRead src dst n o s) := by
  unfold endCopyRead
  simp only
  split
  · exact (readHalves_quiet n src _).trans (holdCopied_quiet _ _)
  · exact (readHalves_quiet n src _).trans (by constructor <;> rfl)

theorem endPatch_quiet (r : PatchReq) (s : State) :
    QuietUpdate (writeHalves r.addr [(readHalf r.addr (freePort s)).1 &&& r.andMask ||| r.orMask] (freePort s))
      (endPatch r s) := by
  constructor <;> simp [endPatch, patchMemory, acceptCmdWith, writeHalves]

/-- A window unit of the kind a row ends is in the grant. -/
theorem windowUnit_of_holds {kind : WinUnit → Bool} {s : State} (h : windowHolds kind s = true) :
    ∃ u, windowUnit s = some u ∧ kind u = true := by
  unfold windowHolds at h
  split at h
  next u hu => exact ⟨u, hu, h⟩
  · cases h

/-! ## The walker's steps -/

theorem recordFetch_acts {s : State} (h : recordFetchOccurs s = true) : Acts s (recordFetch s) := by
  have hwalking : fetchDue s = true → s.walker.st = .walking := fun hdue => by
    simp only [fetchDue, walkerDue, Bool.and_eq_true, beq_iff_eq] at hdue
    exact hdue.1.1
  unfold recordFetch
  split
  next hzone =>
    rw [Bool.and_eq_true] at hzone
    exact (RowEffect.fetchZone (hwalking hzone.1)).acts
  next hzone =>
    have hholds : walkerHolds s = true := by simpa [recordFetchOccurs, hzone] using h
    split
    next hlive =>
      split
      · exact (RowEffect.fetched (hwalking hlive.2) hlive.1 _).acts
      next hnone => simp [fetchDue, hnone] at hlive
    · obtain hgrant | hgrant : s.mem.grant = some (.walker true) ∨ s.mem.grant = some (.walker false) := by
        simpa [walkerHolds] using hholds
      · exact (RowEffect.unfetched true hgrant).acts
      · exact (RowEffect.unfetched false hgrant).acts

/-- A walker's step is due in WALKING alone. -/
theorem walking_of_walkerDue {kind : WalkStep → Bool} {s : State} (h : walkerDue kind s = true) :
    s.walker.st = .walking ∧ kind s.walker.next = true := by
  simpa [walkerDue] using h

theorem walkerLeaving_acts {s : State} (h : (walkerDue WalkStep.isLeave s && s.walker.cur.isSome) = true) :
    Acts s (match s.walker.cur with
      | some c => if s.walker.next = .leaveAlt then leaveThroughAlt c s else leaveNormally c s
      | none => s) := by
  obtain ⟨hdue, hcur⟩ := Bool.and_eq_true_iff.mp h
  obtain ⟨hst, _⟩ := walking_of_walkerDue hdue
  split
  · split
    · exact (RowEffect.leaveAlt hst _).acts
    · exact (RowEffect.leave hst _).acts
  next hnone => simp [hnone] at hcur

/-! ## The applier's steps -/

theorem periodIs_iff {cond : Period → Bool} {s : State} :
    periodIs cond s = true ↔ ∃ p, s.app.period = some p ∧ cond p = true := by
  unfold periodIs
  split
  next hperiod => simp [hperiod]
  next hperiod => simp [hperiod]

theorem waitIs_iff {cond : WaitProgress → Bool} {s : State} :
    waitIs cond s = true ↔
      s.run.state = .waiting ∧ s.run.cause ≠ .notReady ∧ ∃ w, s.app.wait = some w ∧ cond w = true := by
  unfold waitIs
  split
  next hwait => simp [hwait, and_assoc]
  next hwait => simp [hwait]

/-- An edge that the trigger unit takes is latched and offered to run control. -/
theorem triggerEdge_acts {j : Line} {rising : Bool} {s : State} (h : edgeTaken j rising s = true) :
    Acts s (offerEdge j (raise .trgEdge { s with trig.latch := s.trig.latch ||| BitVec.ofNat 4 (2 ^ j.val) })) := by
  have high : s.resetLow = false := by
    simp only [edgeTaken, Bool.and_eq_true, Bool.not_eq_true'] at h
    exact h.1.1
  generalize hlatched : raise .trgEdge { s with trig.latch := s.trig.latch ||| BitVec.ofNat 4 (2 ^ j.val) } = u
  have hquiet : QuietUpdate s u := by subst hlatched; constructor <;> simp
  have hhigh : u.resetLow = false := hquiet.resetLow.trans high
  refine Acts.after high hquiet ?_
  unfold offerEdge armEdge waitEdge
  split
  next harmed =>
    split
    · split
      · exact QuietUpdate.then hhigh (u := linesOn .outRun u) (by constructor <;> rfl) (.taking (by exact .inr harmed))
      · exact QuietUpdate.acts hhigh (by constructor <;> simp)
    · exact (QuietUpdate.refl u).acts hhigh
  · split
    next hwaiting =>
      split
      next w hwait =>
        split
        · exact (RowEffect.satisfyWait hwaiting.1 w hwait).acts
        · exact (QuietUpdate.refl u).acts hhigh
      · exact (QuietUpdate.refl u).acts hhigh
    · exact (QuietUpdate.refl u).acts hhigh

/-! ## Rows one by one -/

theorem logReset_acts {s : State} (high : s.resetLow = false) :
    Acts s (cmdUnless (if runActive s then some .wrongState else none)
      (fun s => acceptCmd { s with log.wp := 0, log.rp := 0 }) s) := by
  refine cmdUnless_acts high fun hpass => ?_
  have hidle : runActive s = false := by simpa using hpass
  refine (acceptCmd_quiet s).then high (.ringMoved ?_ ?_ s.log.base s.log.size (.inl rfl))
  exacts [high, hidle]

theorem fill_acts {s : State} (high : s.resetLow = false) :
    Acts s (cmdUnless (fillRefusal s) (fun s => startMemop (.fill (cargPair s 0) (cargPair s 2) s.win.carg[4]) s) s) :=
  cmdUnless_acts high fun _ => (RowEffect.memop high _).acts

theorem copy_acts {s : State} (high : s.resetLow = false) :
    Acts s (cmdUnless (copyRefusal s)
      (fun s => startMemop (.copy (cargPair s 0) (cargPair s 2) (cargPair s 4) none) s) s) :=
  cmdUnless_acts high fun _ => (RowEffect.memop high _).acts

theorem resume_acts {s : State} (high : s.resetLow = false) :
    Acts s (cmdUnless (notPaused s) (fun s => resumeRun (acceptCmd s)) s) :=
  cmdUnless_acts high fun hpaused =>
    Acts.after high (acceptCmd_quiet s) (resumeRun_acts (by exact high) (notPaused_none hpaused))

theorem step_acts {s : State} (high : s.resetLow = false) :
    Acts s (cmdUnless (notPaused s) (fun s => resumeRun (acceptCmd { s with run.stepReq := true })) s) := by
  have haccept : QuietUpdate s (acceptCmd { s with run.stepReq := true }) := by constructor <;> rfl
  exact cmdUnless_acts high fun hpaused =>
    Acts.after high haccept (resumeRun_acts (by exact high) (notPaused_none hpaused))

theorem execIllegalCmd_outcome {code : HW} {s t : State} (h : execIllegalCmd code s = .next t) : RowOutcome s t := by
  unfold execIllegalCmd at h
  split at h
  · obtain rfl := Host.Outcome.next.inj h
    exact .unchanged
  · exact command_outcome h (fun u high => (refuseCmd_quiet .illegalCmd u).acts high)

theorem execRegisterWrite_outcome {offset : BitVec 7} {v : HW} {s t : State}
    (h : execRegisterWrite offset v s = .next t) : RowOutcome s t := by
  unfold execRegisterWrite at h
  split at h
  · obtain rfl := Host.Outcome.next.inj h
    exact .unchanged
  · exact registerAccess_outcome h (fun high _ => cargWrite_acts high)

theorem execLogrpWrite_outcome {v : HW} {s t : State} (h : execLogrpWrite v s = .next t) : RowOutcome s t := by
  refine registerAccess_outcome h (fun high hpass => ?_)
  have hgood : logrpBad s (joined s .logrp v).toNat = false := by simpa using firstRefusal_eq_none_iff.mp hpass
  exact (RowEffect.logrp high _ hgood).acts

theorem execWalkerArrival_outcome {s t : State} (h : execWalkerArrival s = .next t) : RowOutcome s t := by
  refine eventStep_outcome h (fun hdue => ?_)
  obtain ⟨hst, hnext⟩ := walking_of_walkerDue hdue
  cases hn : s.walker.next with
  | arrive i loopBack => exact (RowEffect.arrive hst i loopBack).acts
  | _ => simp [hn, WalkStep.isArrive] at hnext

theorem execWaitItemPush_outcome {s t : State} (h : execWaitItemPush s = .next t) : RowOutcome s t := by
  refine eventStep_outcome h (fun hdue => ?_)
  obtain ⟨hdue, hcur⟩ := Bool.and_eq_true_iff.mp hdue
  obtain ⟨c, hc⟩ := Option.isSome_iff_exists.mp hcur
  simp only [hc]
  exact (RowEffect.pushWait (walking_of_walkerDue hdue).1 c).acts

theorem execStreamBegin_outcome {s t : State} (h : execStreamBegin s = .next t) : RowOutcome s t := by
  refine eventStep_outcome h (fun hdue => (RowEffect.taking (.inl ?_)).acts)
  simp only [Bool.and_eq_true, beq_iff_eq] at hdue
  exact hdue.1.2

/-- An event of the period in progress. -/
theorem periodEvent_outcome {cond : Period → Bool} {f : Period → State → State} {s t : State}
    (h : eventStep (periodIs cond s) (fun s => match s.app.period with | some p => f p s | none => s) s = .next t)
    (heffect : ∀ p, s.app.period = some p → RowEffect s (f p s)) : RowOutcome s t := by
  refine eventStep_outcome h (fun hdue => ?_)
  obtain ⟨p, hperiod, _⟩ := periodIs_iff.mp hdue
  simp only [hperiod]
  exact (heffect p hperiod).acts

/-- An event of the wait being made. -/
theorem waitEvent_outcome {cond : WaitProgress → Bool} {f : WaitProgress → State → State} {s t : State}
    (h : eventStep (waitIs cond s) (fun s => match s.app.wait with | some w => f w s | none => s) s = .next t)
    (heffect : ∀ w, s.run.state = .waiting → s.app.wait = some w → RowEffect s (f w s)) : RowOutcome s t := by
  refine eventStep_outcome h (fun hdue => ?_)
  obtain ⟨hstate, _, w, hwait, _⟩ := waitIs_iff.mp hdue
  simp only [hwait]
  exact (heffect w hstate hwait).acts

theorem execStarvetoExpiry_outcome {s t : State} (h : execStarvetoExpiry s = .next t) : RowOutcome s t := by
  refine eventStep_outcome h (fun hdue => (RowEffect.starved ?_).acts)
  simp only [starvetoRuns, Bool.and_eq_true, beq_iff_eq] at hdue
  exact hdue.1.1

theorem execRecordPublication_outcome {s t : State} (h : execRecordPublication s = .next t) : RowOutcome s t := by
  refine eventStep_outcome h (fun hdue => ?_)
  have hgrant : s.mem.grant = some .writer := by simpa [writerGranted] using hdue
  split
  next hfifo => exact (RowEffect.published hgrant _ _ hfifo).acts
  next hfifo => exact (RowEffect.unpublished hgrant hfifo).acts

theorem execRefreshTimerExpiry_outcome {s t : State} (h : execRefreshTimerExpiry s = .next t) : RowOutcome s t := by
  refine eventStep_outcome h (fun _ => ?_)
  simp only
  split
  next hbelow => exact (RowEffect.owe hbelow).acts
  · exact RowEffect.miss.acts

theorem execMemInitEnd_outcome {s t : State} (h : execMemInitEnd s = .next t) : RowOutcome s t := by
  refine eventStep_outcome h (fun hdue => (RowEffect.initialized ?_).acts)
  simp only [Bool.and_eq_true, Bool.not_eq_true'] at hdue
  exact hdue.2

/-- The end of a grant of the window, or of a part of it. -/
theorem windowEvent_outcome {kind : WinUnit → Bool} {f : State → State} {s t : State}
    (h : eventStep (windowHolds kind s) f s = .next t)
    (heffect : ∀ u, s.mem.grant = some (.window u) → kind u = true → windowUnit s = some u → RowEffect s (f s)) :
    RowOutcome s t := by
  refine eventStep_outcome h (fun hdue => ?_)
  obtain ⟨u, hu, hkind⟩ := windowUnit_of_holds hdue
  exact (heffect u (grant_of_windowUnit hu) hkind hu).acts

theorem execPostedWriteDrain_outcome {s t : State} (h : execPostedWriteDrain s = .next t) : RowOutcome s t := by
  refine windowEvent_outcome h (fun u hgrant hkind hu => ?_)
  cases u with
  | drain ws live => simpa only [hu] using RowEffect.drained ws live hgrant
  | _ => cases hkind

theorem execReadAheadFetch_outcome {s t : State} (h : execReadAheadFetch s = .next t) : RowOutcome s t := by
  refine windowEvent_outcome h (fun u hgrant hkind hu => ?_)
  cases u with
  | fetch a n live => simpa only [hu] using RowEffect.endFetch a n live hgrant
  | _ => cases hkind

theorem execFillBurst_outcome {s t : State} (h : execFillBurst s = .next t) : RowOutcome s t := by
  refine windowEvent_outcome h (fun u hgrant hkind hu => ?_)
  cases u with
  | fill d n v o =>
    simpa only [hu, endFillBurst] using RowEffect.windowWrote _ hgrant d (List.replicate n v) (endBurst_quiet n o _)
  | _ => cases hkind

theorem execCopyReadBurst_outcome {s t : State} (h : execCopyReadBurst s = .next t) : RowOutcome s t := by
  refine windowEvent_outcome h (fun u hgrant hkind hu => ?_)
  cases u with
  | copyRead a d n o => simpa only [hu] using RowEffect.windowFreed _ hgrant (endCopyRead_quiet a d n o s)
  | _ => cases hkind

theorem execCopyWriteBurst_outcome {s t : State} (h : execCopyWriteBurst s = .next t) : RowOutcome s t := by
  refine windowEvent_outcome h (fun u hgrant hkind hu => ?_)
  cases u with
  | copyWrite d xs o =>
    simpa only [hu, endCopyWrite] using RowEffect.windowWrote _ hgrant d xs
      ((dropCopied_quiet o _).trans (endBurst_quiet xs.length o _))
  | _ => cases hkind

theorem execPatchGrant_outcome {s t : State} (h : execPatchGrant s = .next t) : RowOutcome s t := by
  refine windowEvent_outcome h (fun u hgrant hkind hu => ?_)
  cases u with
  | patch r => simpa only [hu] using RowEffect.windowWrote _ hgrant _ _ (endPatch_quiet r s)
  | _ => cases hkind

/-! ## Every row -/

/-- Every row's outcome. -/
theorem exec_outcome {c : Instr} {s t : State} (h : exec c s = .next t) : RowOutcome s t := by
  unfold exec at h
  cases c with
  | start => exact command_outcome h (fun _ => startRun_acts)
  | arm => exact command_outcome h (fun _ => armRun_acts)
  | pause => exact command_outcome h (fun _ => pauseRun_acts)
  | resume => exact command_outcome h (fun _ => resume_acts)
  | step => exact command_outcome h (fun _ => step_acts)
  | abort => exact command_outcome h (fun _ => abortRun_acts)
  | clear => exact command_outcome h (fun _ => clearEnded_acts)
  | segWrite => exact command_outcome h (fun _ high => segCommand_acts high fun n _ => segWriteAt_acts n)
  | segRead =>
    exact command_outcome h (fun _ high => segCommand_acts high fun n _ hhigh => QuietUpdate.acts hhigh (by constructor <;> rfl))
  | segReady =>
    exact command_outcome h (fun _ high => segCommand_acts high fun n u hhigh =>
      (setEntryReady_quiet n true u).then hhigh (.ready (by exact hhigh) n))
  | segUnready =>
    exact command_outcome h (fun _ high => segCommand_acts high fun n u hhigh => (setEntryReady_quiet n false u).acts hhigh)
  | logReset => exact command_outcome h (fun _ => logReset_acts)
  | fill => exact command_outcome h (fun _ => fill_acts)
  | copy => exact command_outcome h (fun _ => copy_acts)
  | patch => exact command_outcome h (fun _ high => cmdUnless_acts high fun _ => startPatch_acts high)
  | memopCancel => exact command_outcome h (fun _ => memopCancel_acts)
  | softReset n => exact command_outcome h (fun _ high => (RowEffect.softReset high n).acts)
  | illegalCmd code => exact execIllegalCmd_outcome h
  | portcfgWrite p v =>
    exact registerAccess_outcome h (fun high hpass => portcfgWrite_acts high (lockedCheck_none hpass).1)
  | logbaseWrite v =>
    exact registerAccess_outcome h (fun high hpass => logbaseWrite_acts high (lockedCheck_none hpass).1)
  | logsizeWrite v =>
    exact registerAccess_outcome h (fun high hpass => logsizeWrite_acts high (lockedCheck_none hpass).1 (lockedCheck_none hpass).2)
  | loglevelWrite v => exact registerAccess_outcome h (fun high _ => (RowEffect.loglevel high _).acts)
  | logrpWrite v => exact execLogrpWrite_outcome h
  | zoneDescriptorWrite r v => exact registerAccess_outcome h zoneDescriptorWrite_acts
  | trgcfgWrite v => exact registerAccess_outcome h (fun high _ => trgcfgWrite_acts high)
  | memstatWrite v => exact registerAccess_outcome h (fun high _ => memstatWrite_acts high)
  | waddrWrite v | winctlWrite v =>
    exact registerAccess_outcome h (fun high _ => (RowEffect.discard high (by constructor <;> rfl)).acts)
  | registerWrite offset v => exact execRegisterWrite_outcome h
  | tsetselWrite | tsetValueWrite | startsegWrite | armcfgWrite | starvetoWrite | failpolicyWrite | faillimitWrite
  | breakpointWrite | segstageWrite | trgstatWrite | zoneselWrite | refintWrite | pairLowWrite | evflagWrite
  | evenableWrite | evctlWrite =>
    exact registerAccess_outcome h (fun high _ => QuietUpdate.acts high (by constructor <;> rfl))
  | pairLowRead p => exact hostAccess_outcome h (fun high => QuietUpdate.acts high (by constructor <;> rfl))
  | wdataRead => exact hostAccess_outcome h wdataRead_acts
  | wdataWrite v => exact hostAccess_outcome h wdataWrite_acts
  | walkerArrival => exact execWalkerArrival_outcome h
  | waitItemPush => exact execWaitItemPush_outcome h
  | recordFetch => exact eventStep_outcome h recordFetch_acts
  | walkerLeaving => exact eventStep_outcome h walkerLeaving_acts
  | streamBegin => exact execStreamBegin_outcome h
  | periodEnd => exact periodEvent_outcome h RowEffect.endPeriod
  | driveEdge => exact periodEvent_outcome h RowEffect.driveEdge
  | strobe pads => exact periodEvent_outcome h (fun p hperiod => .strobe p hperiod pads)
  | matchSample pads => exact waitEvent_outcome h (fun w hstate hwait => .matchSample hstate w hwait pads)
  | waitPeriodEnd => exact waitEvent_outcome h (fun w hstate hwait => .endWaitPeriod hstate w hwait)
  | starvetoExpiry => exact execStarvetoExpiry_outcome h
  | triggerEdge j rising => exact eventStep_outcome h triggerEdge_acts
  | recordPublication => exact execRecordPublication_outcome h
  | refreshTimerExpiry => exact execRefreshTimerExpiry_outcome h
  | refreshCompletion =>
    exact eventStep_outcome h (fun hdue => (RowEffect.refreshed (beq_iff_eq.mp hdue)).acts)
  | memInitEnd => exact execMemInitEnd_outcome h
  | postedWriteDrain => exact execPostedWriteDrain_outcome h
  | readAheadFetch => exact execReadAheadFetch_outcome h
  | fillBurst => exact execFillBurst_outcome h
  | copyReadBurst => exact execCopyReadBurst_outcome h
  | copyWriteBurst => exact execCopyWriteBurst_outcome h
  | patchGrant => exact execPatchGrant_outcome h
  | por msize =>
    obtain rfl := Host.Outcome.next.inj h
    exact .por msize
  | resetNAssert n => exact eventStep_outcome h (fun hdue => (RowEffect.resetFalls (by simpa using hdue) n).acts)
  | resetNRelease => exact eventStep_outcome h (fun hdue => (RowEffect.resetRises hdue).acts)

/-- Every row's effect leaves the waiting commands. -/
theorem RowEffect.pending {s t : State} (h : RowEffect s t) : t.pending = s.pending := by
  cases h with
  | quiet _ hq => exact hq.pending
  | discard _ hq => exact hq.pending.trans (by simp)
  | windowFreed _ _ hq => exact hq.pending.trans (by simp)
  | windowWrote _ _ _ _ hq => exact hq.pending.trans (by simp)
  | _ => simp

theorem RowOutcome.pending {s t : State} (h : RowOutcome s t) : t.pending = s.pending := by
  cases h with
  | unchanged => rfl
  | por msize => rfl
  | acts hacts =>
    obtain ⟨u, rfl | ⟨_, hquiet⟩, hrow⟩ := hacts
    · simp [hrow.pending]
    · simp [hrow.pending, hquiet.pending]

/-! ## The induction over a step -/

/-- A property that a step keeps: it does not look at the waiting commands, and the tick, the arbiter, every row's effect
and the power-on reset keep it. -/
theorem step_keeps {I : State → Prop} (hpending : ∀ s rest, I s → I { s with pending := rest })
    (htick : ∀ s, I s → I (tick s)) (harbitrate : ∀ s, I s → I (arbitrate s))
    (heffect : ∀ s t, RowEffect s t → I s → I t)
    (hpor : ∀ s msize, I s → I { State.porWith msize s.free with resetLow := s.resetLow, pending := s.pending })
    (s t : State) (hs : I s) (h : step s = .next t) : I t := by
  unfold step at h
  split at h
  · obtain rfl := Host.Outcome.next.inj h
    exact htick s hs
  next c rest _ =>
    have hrest := hpending s rest hs
    cases exec_outcome h with
    | unchanged => exact hrest
    | por msize => exact hpor _ msize hrest
    | acts hacts =>
      obtain ⟨u, rfl | ⟨high, hquiet⟩, hrow⟩ := hacts
      · exact harbitrate _ (heffect _ _ hrow hrest)
      · exact harbitrate _ (heffect _ _ hrow (heffect _ _ (.quiet high hquiet) hrest))

end Sys2Proof.Machine
end

section
/-! The zones (09_pattern_memory.md, R162, R164): a step keeps the enabled zones disjoint and inside the DRAM. -/

namespace Sys2Proof.Machine

/-- The zones and the size of the DRAM say whether the zones are disjoint. -/
theorem ZonesDisjoint.congr {s t : State} (h : ZonesDisjoint s) (hzones : t.mem.zones = s.mem.zones)
    (hmsize : t.mem.msize = s.mem.msize) : ZonesDisjoint t := by
  unfold ZonesDisjoint dramSize
  rw [hzones, hmsize]
  exact h

/-- With every zone disabled the zones are disjoint. -/
theorem zonesDisjoint_of_por {s : State} (hzones : s.mem.zones = (MemCtl.por 0).zones) : ZonesDisjoint s := by
  have hdisabled : ∀ i : Fin 8, s.mem.zones[i].enabled = false := by
    rw [hzones]; decide
  constructor
  · intro i hi
    exact absurd (hdisabled i) (by rw [hi]; decide)
  · intro i j _ hi
    exact absurd (hdisabled i) (by rw [hi]; decide)

theorem mem_all8 (j : Fin 8) : j ∈ all8 := by revert j; decide

theorem Zone.overlaps_comm (a b : Zone) : a.overlaps b = b.overlaps a := Bool.and_comm _ _

/-- A permitted descriptor lies inside the DRAM and shares no address with another enabled one. -/
theorem of_zoneBad_false {s : State} {n : Fin 8} {z : Zone} (good : zoneBad s n z = false) (hz : z.enabled = true) :
    z.base.toNat ≤ z.limit.toNat ∧ z.limit.toNat < dramSize s ∧
      ∀ j : Fin 8, j ≠ n → s.mem.zones[j].enabled = true → z.overlaps s.mem.zones[j] = false := by
  simp only [zoneBad, hz, Bool.true_and, Bool.or_eq_false_iff, decide_eq_false_iff_not, Nat.not_lt, Nat.not_le] at good
  obtain ⟨⟨horder, hsize⟩, hshared⟩ := good
  refine ⟨horder, hsize, fun j hj henabled => ?_⟩
  have hfree := List.any_eq_false.mp hshared j (mem_all8 j)
  rw [henabled, bne_iff_ne.mpr hj] at hfree
  simpa using hfree

theorem zones_set_same {zones : Vector Zone 8} (n : Fin 8) (z : Zone) : (zones.set n z)[n] = z :=
  Vector.getElem_set_self _

theorem zones_set_other {zones : Vector Zone 8} {n i : Fin 8} (z : Zone) (h : i ≠ n) :
    (zones.set n z)[i] = zones[i] :=
  Vector.getElem_set_ne _ _ fun hval => h (Fin.ext hval.symm)

/-- A permitted descriptor keeps the zones disjoint. -/
theorem ZonesDisjoint.set {s : State} (h : ZonesDisjoint s) {n : Fin 8} {z : Zone} (good : zoneBad s n z = false) :
    ZonesDisjoint { s with mem.zones := s.mem.zones.set n z } := by
  obtain ⟨hinside, hshared⟩ := h
  constructor
  · intro i hi
    by_cases hin : i = n
    · subst hin
      simp only [zones_set_same] at hi ⊢
      obtain ⟨horder, hsize, _⟩ := of_zoneBad_false good hi
      exact ⟨horder, hsize⟩
    · simp only [zones_set_other z hin] at hi ⊢
      exact hinside i hi
  · intro i j hij hi hj
    by_cases hin : i = n
    · subst hin
      simp only [zones_set_same, zones_set_other z hij.symm] at hi hj ⊢
      exact (of_zoneBad_false good hi).2.2 j hij.symm hj
    · by_cases hjn : j = n
      · subst hjn
        simp only [zones_set_same, zones_set_other z hij] at hi hj ⊢
        rw [Zone.overlaps_comm]
        exact (of_zoneBad_false good hj).2.2 i hij hi
      · simp only [zones_set_other z hin, zones_set_other z hjn] at hi hj ⊢
        exact hshared i j hij hi hj

theorem RowEffect.keeps_zonesDisjoint {s t : State} (heffect : RowEffect s t) (h : ZonesDisjoint s) :
    ZonesDisjoint t := by
  cases heffect with
  | quiet _ hquiet => exact h.congr hquiet.zones hquiet.msize
  | discard _ hquiet => exact h.congr (by simp [hquiet.zones]) (by simp [hquiet.msize])
  | windowFreed _ _ hquiet => exact h.congr (by simp [hquiet.zones]) (by simp [hquiet.msize])
  | windowWrote _ _ _ _ hquiet => exact h.congr (by simp [hquiet.zones]) (by simp [hquiet.msize])
  | zone _ z good => exact h.set good
  | resetFalls _ n => exact zonesDisjoint_of_por rfl
  | _ => exact h.congr (by simp) (by simp)

/-- Settles O8: only a permitted descriptor enters the table, and a reset disables every zone. -/
theorem stepKeepsZonesDisjoint : Obligations.StepKeepsZonesDisjoint := by
  refine step_keeps (fun s rest h => h) (fun s h => ?tick) (fun s h => ?arbitrate)
    (fun s t heffect h => heffect.keeps_zonesDisjoint h) fun s msize _ => ?por
  case tick => exact h.congr (by simp) (by simp)
  case arbitrate => exact h.congr (by simp) (by simp)
  case por => exact zonesDisjoint_of_por rfl

end Sys2Proof.Machine
end

section
/-! The walker's steps (04_the_walker_and_the_prefetch_queue.md, R56 to R75): what a step pushes into the prefetch queue and
the walker state it leaves. -/

namespace Sys2Proof.Machine

/-- An indexed vector of four. -/
theorem getElem_vec4 {α : Type} (f : Fin 4 → α) (p : Fin 4) : (vec4 f)[p] = f p := by
  fin_cases p <;> rfl

/-! ## A record that passes its checks -/

theorem mem_all4 (p : Fin 4) : p ∈ all4 := by revert p; decide

/-- The ports that a record names are enabled when it passes its checks (R27 check 3). -/
theorem enabled_of_decodeFault_none {s : State} {h : HW} {parts : Vector (Option PortPart) 4}
    (hpass : decodeFault s h parts = none) (p : Port) (hpresent : parts[p].isSome = true) :
    s.ports.cfg[p].enabled = true := by
  unfold decodeFault at hpass
  split at hpass
  · cases hpass
  · split at hpass
    · cases hpass
    · split at hpass
      · cases hpass
      next hstandby =>
        rw [Bool.not_eq_true] at hstandby
        have hport := List.any_eq_false.mp hstandby p (mem_all4 p)
        simpa only [hpresent, Bool.true_and, Bool.not_eq_true', Bool.not_eq_false] using hport

theorem decodeVector_portsEnabled {s : State} {e : SegImage} {k : Nat} {h : HW}
    {parts : Vector (Option PortPart) 4} (hpass : decodeFault s h parts = none) :
    portsEnabled s (decodeVector s e k h parts) := by
  intro p hp
  simp only [decodeVector, getElem_vec4, Option.isSome_map] at hp
  exact enabled_of_decodeFault_none hpass p hp

/-- A decode check that fails gives a fault code. -/
theorem decodeFault_ne_none {s : State} {h : HW} {parts : Vector (Option PortPart) 4} {code : FaultCode}
    (hfault : decodeFault s h parts = some code) : code ≠ .none := by
  unfold decodeFault at hfault
  rintro rfl
  (repeat' split at hfault) <;> cases hfault

/-! ## What a walker's step does to the queue -/

/-- What one step of the walker does to the prefetch queue, and the walker state it leaves: nothing, on the way to the next
step; a FAULT or END item, and DONE; a VECTOR item whose ports are enabled, and the queue test; a WAIT item, and STALL_WAIT
behind a SKIP wait, else the queue test. -/
inductive WalkerStep (s t : State) : Prop
  | onward (hqueue : t.queue = s.queue) (hst : t.walker.st = .walking ∨ t.walker.st = .stallReady)
  | fault (code : FaultCode) (tags : Tags) (hcode : code ≠ .none) (hqueue : t.queue = s.queue ++ [.fault code tags])
      (hst : t.walker.st = .done)
  | endChain (tags : Tags) (hqueue : t.queue = s.queue ++ [.endChain tags]) (hst : t.walker.st = .done)
  | vector (v : DecodedVector) (tags : Tags) (eop : Bool) (hports : portsEnabled s v)
      (hqueue : t.queue = s.queue ++ [.vector v tags eop])
      (hst : t.walker.st = if 8 ≤ t.queue.length then .stallFull else .walking)
  | wait (w : WaitItem) (tags : Tags) (hqueue : t.queue = s.queue ++ [.wait w tags])
      (hst : t.walker.st = if w.skip then .stallWait else if 8 ≤ t.queue.length then .stallFull else .walking)

/-- A step of the walker from a state with the same queue and ports. -/
theorem WalkerStep.congr {s s' t : State} (h : WalkerStep s' t) (hqueue : s'.queue = s.queue)
    (hports : s'.ports = s.ports) : WalkerStep s t := by
  cases h with
  | onward hq hst => exact .onward (hq.trans hqueue) hst
  | fault code tags hcode hq hst => exact .fault code tags hcode (hqueue ▸ hq) hst
  | endChain tags hq hst => exact .endChain tags (hqueue ▸ hq) hst
  | vector v tags eop hen hq hst =>
    refine .vector v tags eop (fun p hp => ?_) (hqueue ▸ hq) hst
    rw [← hports]
    exact hen p hp
  | wait w tags hq hst => exact .wait w tags (hqueue ▸ hq) hst

theorem pushFault_step {code : FaultCode} (hcode : code ≠ .none) (tags : Tags) (s : State) :
    WalkerStep s (pushFault code tags s) := .fault code tags hcode rfl rfl

theorem pushEnd_step (s : State) : WalkerStep s (pushEnd s) := .endChain Tags.zero rfl rfl

theorem afterArrival_step (e : SegImage) {s : State} (hst : s.walker.st = .walking) :
    WalkerStep s (afterArrival e s) := .onward (by simp) (.inl (by simpa using hst))

theorem takeEntry_step (i : SegIdx) (e : SegImage) (loopBack : Bool) (s : State) :
    WalkerStep s (takeEntry i e loopBack s) := by
  simp only [takeEntry]
  split
  · exact (pushFault_step (by decide) _ _).congr rfl rfl
  · split
    · split
      · exact (afterArrival_step e rfl).congr rfl rfl
      · exact (pushFault_step (by decide) _ _).congr rfl rfl
    · exact (afterArrival_step e rfl).congr rfl rfl

theorem walkerArrive_step (i : SegIdx) (loopBack : Bool) (s : State) : WalkerStep s (walkerArrive i loopBack s) := by
  simp only [walkerArrive]
  split
  · exact takeEntry_step i _ loopBack s
  · exact .onward rfl (.inr rfl)

theorem goTo_step (d : SegIdx) (loopBack : Bool) (s : State) : WalkerStep s (goTo d loopBack s) := .onward rfl (.inl rfl)

theorem followLink_step (i : SegIdx) (dest : Link) {s : State} (hst : s.walker.st = .walking) :
    WalkerStep s (followLink i dest s) := by
  unfold followLink
  split
  · exact (goTo_step _ false _).congr (by simp) (by simp)
  · exact (pushEnd_step _).congr (by simp) (by simp)
  · exact .onward rfl (.inl hst)

theorem leaveOpen_step (i : SegIdx) (dest : Link) (tags : Tags) {s : State} (hst : s.walker.st = .walking) :
    WalkerStep s (leaveOpen i dest tags s) := by
  unfold leaveOpen
  split
  · exact pushFault_step (by decide) tags s
  · exact followLink_step i dest hst

theorem loopBackTo_step (i : SegIdx) (top : LoopElem) (rest : List LoopElem) (s : State) :
    WalkerStep s (loopBackTo i top rest s) := (goTo_step _ true _).congr (by simp) (by simp)

theorem popAndLeave_step (i : SegIdx) (top : LoopElem) (rest : List LoopElem) (dest : Link) {s : State}
    (hst : s.walker.st = .walking) : WalkerStep s (popAndLeave i top rest dest s) := by
  unfold popAndLeave
  split
  · exact (followLink_step i dest (by exact hst)).congr rfl rfl
  · exact (followLink_step i dest (by simpa using hst)).congr (by simp) (by simp)

theorem leaveClosing_step (i : SegIdx) (dest : Link) (tags : Tags) {s : State} (hst : s.walker.st = .walking) :
    WalkerStep s (leaveClosing i dest tags s) := by
  unfold leaveClosing
  split
  · exact pushFault_step (by decide) tags s
  · split
    · exact loopBackTo_step i _ _ s
    · split
      · exact pushFault_step (by decide) tags s
      · split
        · exact .onward rfl (.inl hst)
        · exact popAndLeave_step i _ _ dest hst

theorem leaveNormally_step (c : CurrentEntry) {s : State} (hst : s.walker.st = .walking) :
    WalkerStep s (leaveNormally c s) := by
  unfold leaveNormally
  split
  · exact leaveClosing_step c.idx _ _ hst
  · exact leaveOpen_step c.idx _ _ hst

theorem leaveThroughAlt_step (c : CurrentEntry) {s : State} (hst : s.walker.st = .walking) :
    WalkerStep s (leaveThroughAlt c s) := by
  unfold leaveThroughAlt
  split
  · exact leaveClosing_step c.idx _ _ hst
  · exact leaveOpen_step c.idx _ _ hst

theorem pushRecord_step (e : SegImage) (h : HW) (body : List HW) (s : State) :
    WalkerStep s (pushRecord e h body s) := by
  simp only [pushRecord]
  split
  next code hfault => exact pushFault_step (decodeFault_ne_none hfault) _ s
  next hpass =>
    refine .vector (decodeVector s e s.walker.tags.iter.toNat h (recordParts h body)) s.walker.tags
      (decide (s.walker.tags.off.toNat + 1 = segCount e)) (decodeVector_portsEnabled hpass) ?_ ?_
    · simp [pushItem]
    · simp [queueTest]

theorem fetchRecord_step (e : SegImage) (s : State) : WalkerStep s (fetchRecord e s) := by
  simp only [fetchRecord]
  split
  · exact (pushRecord_step e _ _ _).congr (by simp) (by simp)
  · exact (pushFault_step (by decide) _ _).congr (by simp) (by simp)

theorem pushWaitItem_step (c : CurrentEntry) (s : State) : WalkerStep s (pushWaitItem c s) := by
  refine .wait (waitItemOf s c.img) s.walker.tags ?_ ?_
  · simp only [pushWaitItem]
    split <;> simp [pushItem]
  · simp only [pushWaitItem]
    split <;> simp [queueTest]

end Sys2Proof.Machine
end

section
/-! The fault record (06_run_control.md, R122, R123): a step keeps a fault code behind FAULTED and STOPPING(FAULT). -/

namespace Sys2Proof.Machine

/-- No FAULT item of a queue carries the code 0. -/
def FaultItemsHaveCode (queue : List Item) : Prop := ∀ t, Item.fault .none t ∉ queue

theorem FaultItemsHaveCode.nil : FaultItemsHaveCode [] := fun _ h => by cases h

theorem FaultItemsHaveCode.tail {it : Item} {rest : List Item} (h : FaultItemsHaveCode (it :: rest)) :
    FaultItemsHaveCode rest := fun t ht => h t (List.mem_cons_of_mem _ ht)

theorem FaultItemsHaveCode.append {queue : List Item} {it : Item} (h : FaultItemsHaveCode queue)
    (hit : ∀ t, it ≠ .fault .none t) : FaultItemsHaveCode (queue ++ [it]) := fun t ht => by
  obtain ht | ht := List.mem_append.mp ht
  · exact h t ht
  · exact hit t (List.mem_singleton.mp ht).symm

theorem FaultedOnlyWithCode.congr {s t : State} (h : FaultedOnlyWithCode s) (hstate : t.run.state = s.run.state)
    (hcause : t.run.cause = s.run.cause) (hfault : t.run.fault = s.run.fault)
    (hqueue : FaultItemsHaveCode t.queue) : FaultedOnlyWithCode t := by
  obtain ⟨hfaulted, hstopping, _⟩ := h
  unfold FaultedOnlyWithCode
  rw [hstate, hcause, hfault]
  exact ⟨hfaulted, hstopping, hqueue⟩

theorem FaultedOnlyWithCode.frame {s t : State} (h : FaultedOnlyWithCode s) (hstate : t.run.state = s.run.state)
    (hcause : t.run.cause = s.run.cause) (hfault : t.run.fault = s.run.fault) (hqueue : t.queue = s.queue) :
    FaultedOnlyWithCode t := h.congr hstate hcause hfault (by rw [hqueue]; exact h.2.2)

/-- Outside FAULTED and STOPPING only the queue matters. -/
theorem faultedOnlyWithCode_of_state {s : State} (hfaulted : s.run.state ≠ .faulted)
    (hstopping : s.run.state ≠ .stopping) (hqueue : FaultItemsHaveCode s.queue) : FaultedOnlyWithCode s :=
  ⟨fun h => absurd h hfaulted, fun h => absurd h hstopping, hqueue⟩

/-! ## Entry to STOPPING -/

theorem enterStopping_state (cause : Cause) (code : FaultCode) (pos : Tags) (s : State) :
    (enterStopping cause code pos s).run.state = .stopping := by simp [enterStopping]

theorem enterStopping_cause (cause : Cause) (code : FaultCode) (pos : Tags) (s : State) :
    (enterStopping cause code pos s).run.cause = cause := by simp [enterStopping]

theorem enterStopping_fault (cause : Cause) (code : FaultCode) (pos : Tags) (s : State) :
    (enterStopping cause code pos s).run.fault = if cause = .fault then ⟨code, pos⟩ else s.run.fault := by
  simp [enterStopping]

theorem enterStopping_queue (cause : Cause) (code : FaultCode) (pos : Tags) (s : State) :
    (enterStopping cause code pos s).queue = [] := by
  simp [enterStopping, requestsClear, applierStop, walkerStop]

theorem enterStopping_withCode {cause : Cause} {code : FaultCode} (hcode : cause = .fault → code ≠ .none) (pos : Tags)
    (s : State) : FaultedOnlyWithCode (enterStopping cause code pos s) := by
  refine ⟨fun h => ?_, fun _ hcause => ?_, ?_⟩
  · rw [enterStopping_state] at h
    cases h
  · rw [enterStopping_cause] at hcause
    rw [enterStopping_fault, if_pos hcause]
    exact hcode hcause
  · rw [enterStopping_queue]
    exact FaultItemsHaveCode.nil

theorem stopOnFault_withCode {code : FaultCode} (hcode : code ≠ .none) (pos : Tags) (s : State) :
    FaultedOnlyWithCode (stopOnFault code pos s) := enterStopping_withCode (fun _ => hcode) pos s

theorem stopRun_withCode {cause : Cause} (hcause : cause ≠ .fault) (s : State) :
    FaultedOnlyWithCode (stopRun cause s) := enterStopping_withCode (fun h => absurd h hcause) _ s

/-! ## Pauses, waits and the taking -/

theorem enterPaused_withCode (cause : Cause) (suspended : Option Cause) {s : State}
    (hqueue : FaultItemsHaveCode s.queue) : FaultedOnlyWithCode (enterPaused cause suspended s) :=
  faultedOnlyWithCode_of_state (by simp [enterPaused]) (by simp [enterPaused]) (by simpa using hqueue)

theorem enterWaiting_withCode (cause : Cause) {s : State} (hqueue : FaultItemsHaveCode s.queue) :
    FaultedOnlyWithCode (enterWaiting cause s) :=
  faultedOnlyWithCode_of_state (by simp [enterWaiting]) (by simp [enterWaiting]) (by simpa using hqueue)

theorem beginPeriod_withCode (v : DecodedVector) (t : Tags) (eop : Bool) {s : State}
    (hqueue : FaultItemsHaveCode s.queue) : FaultedOnlyWithCode (beginPeriod v t eop s) :=
  faultedOnlyWithCode_of_state (by simp [beginPeriod]) (by simp [beginPeriod]) (by simpa using hqueue)

theorem taking_withCode {s : State} (hqueue : FaultItemsHaveCode s.queue) : FaultedOnlyWithCode (taking s) := by
  unfold taking
  split
  next v t eop rest hhead =>
    unfold takeVector
    split
    · exact enterPaused_withCode _ none hqueue
    · exact beginPeriod_withCode v t eop (hhead ▸ hqueue).tail
  next w t rest hhead => exact enterWaiting_withCode _ (hhead ▸ hqueue).tail
  · exact stopRun_withCode (by decide) _
  next code t rest hhead =>
    refine stopOnFault_withCode ?_ t _
    rintro rfl
    exact hqueue t (hhead ▸ List.mem_cons_self)
  · unfold takeEmpty
    split
    · exact enterWaiting_withCode _ hqueue
    · exact stopOnFault_withCode (by decide) _ s

theorem enterPriming_withCode {s : State} (hqueue : FaultItemsHaveCode s.queue) :
    FaultedOnlyWithCode (enterPriming s) := by
  simp only [enterPriming]
  split
  · exact taking_withCode hqueue
  · exact faultedOnlyWithCode_of_state (by simp) (by simp) hqueue

theorem satisfyWait_withCode (w : WaitProgress) {s : State} (hqueue : FaultItemsHaveCode s.queue) :
    FaultedOnlyWithCode (satisfyWait w s) := by
  simp only [satisfyWait]
  refine enterPriming_withCode ?_
  split
  · simpa using hqueue
  · exact hqueue

theorem timeoutWait_withCode (w : WaitProgress) {s : State} (hqueue : FaultItemsHaveCode s.queue) :
    FaultedOnlyWithCode (timeoutWait w s) := by
  simp only [timeoutWait]
  split
  · exact enterPriming_withCode (by simpa using hqueue)
  · exact stopOnFault_withCode (by decide) _ _

theorem endPeriod_withCode (p : Period) {s : State} (hqueue : FaultItemsHaveCode s.queue) :
    FaultedOnlyWithCode (endPeriod p s) := by
  simp only [endPeriod]
  split
  · exact stopRun_withCode (by decide) _
  · split
    · exact enterPaused_withCode _ none (by simpa using hqueue)
    · exact taking_withCode (by simpa using hqueue)

/-! ## The drain, and the walker's steps -/

theorem drainComplete_withCode {s : State} (h : FaultedOnlyWithCode s) (hstopping : s.run.state = .stopping) :
    FaultedOnlyWithCode (drainComplete s) := by
  obtain ⟨_, hcode, hqueue⟩ := h
  unfold drainComplete
  split
  next hfault =>
    refine ⟨fun _ => ?_, fun _ _ => ?_, by simpa using hqueue⟩
    all_goals simpa using hcode hstopping hfault
  · exact faultedOnlyWithCode_of_state (by simp) (by simp) (by simpa [FaultItemsHaveCode] using hqueue)

theorem drainAfterPublication_withCode (r : LogRecord) {s : State} (h : FaultedOnlyWithCode s) :
    FaultedOnlyWithCode (drainAfterPublication r s) := by
  unfold drainAfterPublication
  split
  · exact h
  next hstopping =>
    split
    · exact drainComplete_withCode h (not_not.mp hstopping)
    · exact h.frame (by simp) (by simp) (by simp) (by simp)

theorem publish_withCode (r : LogRecord) (rest : List LogRecord) {s : State} (h : FaultedOnlyWithCode s) :
    FaultedOnlyWithCode (publish r rest s) := by
  simp only [publish]
  exact drainAfterPublication_withCode r (h.frame (by simp) (by simp) (by simp) (by simp))

/-- A shortened drain completes at once or goes on from the shortened log. -/
theorem shortenDrain_completes_or_goesOn (s : State) :
    ∃ u : State, u.run.state = s.run.state ∧ u.run.cause = s.run.cause ∧ u.run.fault = s.run.fault ∧
      u.queue = s.queue ∧ (shortenDrain s = drainComplete u ∨ shortenDrain s = u) := by
  refine ⟨_, ?_, ?_, ?_, ?_, ite_eq_or_eq _ _ _⟩ <;> simp

theorem shortenDrain_withCode {s : State} (h : FaultedOnlyWithCode s) (hstopping : s.run.state = .stopping) :
    FaultedOnlyWithCode (shortenDrain s) := by
  obtain ⟨u, hstate, hcause, hfault, hqueue, hends | hgoes⟩ := shortenDrain_completes_or_goesOn s
  · rw [hends]
    exact drainComplete_withCode (h.frame hstate hcause hfault hqueue) (hstate.trans hstopping)
  · rw [hgoes]
    exact h.frame hstate hcause hfault hqueue

theorem WalkerStep.keeps_faultItems {s t : State} (h : WalkerStep s t) (hqueue : FaultItemsHaveCode s.queue) :
    FaultItemsHaveCode t.queue := by
  cases h with
  | onward hq => rwa [hq]
  | fault code tags hcode hq =>
    rw [hq]
    refine hqueue.append fun t ht => hcode ?_
    injection ht
  | endChain tags hq | vector v tags eop _ hq | wait w tags hq =>
    rw [hq]
    exact hqueue.append fun t ht => by cases ht

theorem WalkerStep.withCode {s t : State} (hstep : WalkerStep s t) (h : FaultedOnlyWithCode s) (hrun : t.run = s.run) :
    FaultedOnlyWithCode t := by
  refine h.congr ?_ ?_ ?_ (hstep.keeps_faultItems h.2.2) <;> rw [hrun]

theorem resolveNotReady_withCode {s : State} (h : FaultedOnlyWithCode s) : FaultedOnlyWithCode (resolveNotReady s) := by
  simp only [resolveNotReady]
  split
  · exact enterPriming_withCode h.2.2
  · exact h

theorem readyPending_withCode (n : SegIdx) {s : State} (h : FaultedOnlyWithCode s) :
    FaultedOnlyWithCode (readyPending n s) := by
  unfold readyPending
  split
  · exact resolveNotReady_withCode ((walkerArrive_step n _ s).withCode h (by simp))
  · exact h

/-! ## Every row -/

theorem RowEffect.keeps_faultedOnlyWithCode {s t : State} (heffect : RowEffect s t) (h : FaultedOnlyWithCode s) :
    FaultedOnlyWithCode t := by
  have hqueue : FaultItemsHaveCode s.queue := h.2.2
  cases heffect with
  | quiet _ hq => exact h.frame hq.state hq.cause hq.fault hq.queue
  | discard _ hq =>
    exact h.frame (by simp [hq.state]) (by simp [hq.cause]) (by simp [hq.fault]) (by simp [hq.queue])
  | windowFreed _ _ hq =>
    exact h.frame (by simp [hq.state]) (by simp [hq.cause]) (by simp [hq.fault]) (by simp [hq.queue])
  | windowWrote _ _ _ _ hq =>
    exact h.frame (by simp [hq.state]) (by simp [hq.cause]) (by simp [hq.fault]) (by simp [hq.queue])
  | start _ checks =>
    exact faultedOnlyWithCode_of_state (by simp [startRun]) (by simp [startRun])
      FaultItemsHaveCode.nil
  | arm _ checks =>
    exact faultedOnlyWithCode_of_state (by simp [armRun]) (by simp [armRun])
      FaultItemsHaveCode.nil
  | pause _ _ suspended => exact enterPaused_withCode _ suspended hqueue
  | rewait => exact enterWaiting_withCode _ (by simpa using hqueue)
  | restall => exact enterWaiting_withCode _ hqueue
  | reprime => exact enterPriming_withCode hqueue
  | abort => exact stopRun_withCode (by decide) s
  | shorten _ hstopping _ => exact shortenDrain_withCode h hstopping
  | clear => exact faultedOnlyWithCode_of_state (by simp) (by simp) hqueue
  | ready _ n => exact readyPending_withCode n h
  | softReset =>
    exact faultedOnlyWithCode_of_state (by simp [softResetRun]) (by simp [softResetRun])
      FaultItemsHaveCode.nil
  | arrive _ i loopBack => exact (walkerArrive_step i loopBack s).withCode h (by simp)
  | pushWait _ c => exact (pushWaitItem_step c s).withCode h (by simp)
  | fetchZone => exact (pushFault_step (by decide) _ s).withCode h (by simp)
  | fetched _ _ c => exact ((fetchRecord_step c.img (freePort s)).congr rfl rfl).withCode h (by simp)
  | leave hst c => exact (leaveNormally_step c hst).withCode h (by simp)
  | leaveAlt hst c => exact (leaveThroughAlt_step c hst).withCode h (by simp)
  | taking => exact taking_withCode hqueue
  | endPeriod p => exact endPeriod_withCode p hqueue
  | matchSample _ w _ pads =>
    simp only [Machine.matchSample]
    split
    · exact satisfyWait_withCode _ hqueue
    · exact h
  | endWaitPeriod _ w =>
    unfold Machine.endWaitPeriod
    simp only
    split
    · exact h
    · split
      · exact timeoutWait_withCode _ hqueue
      · exact h
  | satisfyWait _ w => exact satisfyWait_withCode w hqueue
  | starved => exact stopOnFault_withCode (by decide) _ s
  | published _ r rest => exact publish_withCode r rest (h.congr rfl rfl rfl hqueue)
  | resetFalls => exact faultedOnlyWithCode_of_state (s := resetN _ s) nofun nofun .nil
  | _ => exact h.frame (by simp) (by simp) (by simp) (by simp)

/-- Settles O10: a stop on a fault records its code, the drain's end keeps it, and every FAULT item that the walker pushes
has one. -/
theorem stepKeepsFaultedOnlyWithCode : Obligations.StepKeepsFaultedOnlyWithCode := by
  refine step_keeps (fun s rest h => h) (fun s h => ?tick) (fun s h => ?arbitrate)
    (fun s t heffect h => heffect.keeps_faultedOnlyWithCode h) fun s msize _ => ?por
  case tick => exact h.frame (by simp) (by simp) (by simp) (by simp)
  case arbitrate => exact h.frame (by simp) (by simp) (by simp) (by simp)
  case por => exact faultedOnlyWithCode_of_state (by exact nofun) (by exact nofun) FaultItemsHaveCode.nil

end Sys2Proof.Machine
end

section
/-! The prefetch queue (04_the_walker_and_the_prefetch_queue.md, R61, R70 to R75): a step keeps the queue within its 8 places,
and nothing behind a SKIP wait. -/

namespace Sys2Proof.Machine

/-! ## The part of a state that the bound reads -/

/-- A state with the same queue, walker state and held SKIP wait. -/
theorem QueueBounded.congr {s t : State} (h : QueueBounded s) (hqueue : t.queue = s.queue)
    (hst : t.walker.st = s.walker.st) (hheld : skipWaitHeld t = skipWaitHeld s) : QueueBounded t := by
  unfold QueueBounded
  rw [hqueue, hst, hheld]
  exact h

theorem skipWaitHeld_congr {s t : State} (hwait : t.app.wait = s.app.wait) : skipWaitHeld t = skipWaitHeld s := by
  unfold skipWaitHeld
  rw [hwait]

/-- A state with the same queue, walker state and wait. -/
theorem QueueBounded.frame {s t : State} (h : QueueBounded s) (hqueue : t.queue = s.queue)
    (hst : t.walker.st = s.walker.st) (hwait : t.app.wait = s.app.wait) : QueueBounded t :=
  h.congr hqueue hst (skipWaitHeld_congr hwait)

theorem skipWaitHeld_of_none {s : State} (hwait : s.app.wait = none) : skipWaitHeld s = false := by
  simp [skipWaitHeld, hwait]

theorem skipWaitHeld_of_some {s : State} {w : WaitProgress} (hwait : s.app.wait = some w) :
    skipWaitHeld s = w.item.skip := by
  simp [skipWaitHeld, hwait]

/-- With an empty queue and no SKIP wait, every walker state but STALL_WAIT is within the bound. -/
theorem queueBounded_of_empty {s : State} (hqueue : s.queue = []) (hst : s.walker.st ≠ .stallWait)
    (hheld : skipWaitHeld s = false) : QueueBounded s := by
  refine ⟨?_, fun _ => ?_, fun _ => ⟨?_, hheld⟩, fun h => absurd h hst⟩ <;> simp [hqueue]

/-! ## Entry to STOPPING and the pauses -/

theorem enterStopping_queueBounded (cause : Cause) (code : FaultCode) (pos : Tags) (s : State) :
    QueueBounded (enterStopping cause code pos s) := by
  refine queueBounded_of_empty (enterStopping_queue cause code pos s) ?_ (skipWaitHeld_of_none ?_) <;>
    simp [enterStopping, requestsClear, applierStop, walkerStop, Walker.stoppedState]

theorem enterPaused_queueBounded (cause : Cause) (suspended : Option Cause) {s : State} (h : QueueBounded s) :
    QueueBounded (enterPaused cause suspended s) := h.frame (by simp) (by simp) (by simp)

theorem enterWaiting_queueBounded (cause : Cause) {s : State} (h : QueueBounded s) :
    QueueBounded (enterWaiting cause s) := h.frame (by simp) (by simp) (by simp)

/-! ## The taking -/

/-- The head item leaves the queue, and `s` holds the wait it leaves behind: a SKIP wait exactly when the head was one. -/
theorem QueueBounded.dropHead {s t : State} {it : Item} {rest : List Item} (h : QueueBounded s)
    (hhead : s.queue = it :: rest) (hqueue : t.queue = rest)
    (hst : t.walker.st = if s.walker.st = .stallFull then .walking else s.walker.st)
    (hheld : skipWaitHeld t = (it.isSkipWait || skipWaitHeld s)) : QueueBounded t := by
  obtain ⟨hlen, hplace, hno, hskip⟩ := h
  rw [hhead] at hlen hplace hno hskip
  have hstall : t.walker.st = .stallWait ↔ s.walker.st = .stallWait := by
    rw [hst]
    split
    next hfull => simp [hfull]
    · rfl
  refine ⟨?_, fun _ => ?_, fun hnot => ?_, fun hwait => ?_⟩
  · rw [hqueue]
    exact (Nat.le_succ _).trans hlen
  · rw [hqueue]
    exact hlen
  · obtain ⟨hany, hnone⟩ := hno fun hw => hnot (hstall.mpr hw)
    obtain ⟨hit, hrest⟩ := Bool.or_eq_false_iff.mp hany
    exact ⟨hqueue ▸ hrest, by rw [hheld, hit, hnone]; rfl⟩
  · obtain ⟨hnil, _⟩ | ⟨hnone, front, w, tags, hlast, hw, hfront⟩ := hskip (hstall.mp hwait)
    · cases hnil
    · cases front with
      | nil =>
        obtain ⟨rfl, rfl⟩ := List.cons.inj hlast
        exact .inl ⟨hqueue, by rw [hheld, Item.isSkipWait, hw]; rfl⟩
      | cons first front =>
        obtain ⟨rfl, rfl⟩ := List.cons.inj hlast
        obtain ⟨hit, hfront⟩ := Bool.or_eq_false_iff.mp hfront
        exact .inr ⟨by rw [hheld, hit, hnone]; rfl, front, w, tags, hqueue, hw, hfront⟩

/-- Before an item is taken no SKIP wait is held, since nothing follows one. -/
theorem QueueBounded.notHeld {s : State} (h : QueueBounded s) (hqueue : s.queue ≠ []) : skipWaitHeld s = false := by
  obtain ⟨_, _, hno, hskip⟩ := h
  by_cases hst : s.walker.st = .stallWait
  · obtain ⟨hnil, _⟩ | ⟨hnone, _⟩ := hskip hst
    · exact absurd hnil hqueue
    · exact hnone
  · exact (hno hst).2

theorem taking_queueBounded {s : State} (h : QueueBounded s) : QueueBounded (taking s) := by
  unfold taking
  split
  next v t eop rest hhead =>
    unfold takeVector
    split
    · exact enterPaused_queueBounded _ none (h.frame rfl rfl rfl)
    · refine h.dropHead hhead ?_ ?_ ?_
      · simp [beginPeriod, Machine.dropHead]
      · simp [beginPeriod, Machine.dropHead]
      · simp [beginPeriod, Machine.dropHead, skipWaitHeld, Item.isSkipWait]
  next w t rest hhead =>
    have hnone := h.notHeld (by rw [hhead]; exact List.cons_ne_nil _ _)
    refine h.dropHead hhead ?_ ?_ ?_
    · simp [takeWait, Machine.dropHead]
    · simp [takeWait, Machine.dropHead]
    · simp [takeWait, skipWaitHeld_of_some, Item.isSkipWait, hnone]
  · exact enterStopping_queueBounded _ _ _ _
  · exact enterStopping_queueBounded _ _ _ _
  · unfold takeEmpty
    split
    · exact enterWaiting_queueBounded _ (h.frame rfl rfl rfl)
    · exact enterStopping_queueBounded _ _ _ _

theorem enterPriming_queueBounded {s : State} (h : QueueBounded s) : QueueBounded (enterPriming s) := by
  simp only [enterPriming]
  split
  · exact taking_queueBounded (h.frame rfl rfl rfl)
  · exact h.frame rfl rfl rfl

theorem endPeriod_queueBounded (p : Period) {s : State} (h : QueueBounded s) : QueueBounded (endPeriod p s) := by
  simp only [endPeriod]
  split
  · exact enterStopping_queueBounded _ _ _ _
  · split
    · exact enterPaused_queueBounded _ none (h.frame (by simp) (by simp) (by simp))
    · exact taking_queueBounded (h.frame (by simp) (by simp) (by simp))

/-! ## The end of a wait -/

/-- A held SKIP wait stands alone: the queue is empty and the walker in STALL_WAIT. -/
theorem QueueBounded.alone {s : State} (h : QueueBounded s) (hheld : skipWaitHeld s = true) :
    s.walker.st = .stallWait ∧ s.queue = [] := by
  obtain ⟨_, _, hno, hskip⟩ := h
  by_cases hst : s.walker.st = .stallWait
  · obtain ⟨hnil, _⟩ | ⟨hnone, _⟩ := hskip hst
    · exact ⟨hst, hnil⟩
    · simp [hheld] at hnone
  · simp [hheld] at hno
    exact absurd hno hst

/-- The wait in progress ends: the walker has gone on to WALKING behind a SKIP wait, and stays as it is behind another. -/
theorem QueueBounded.endWait {s t : State} {w : WaitProgress} (h : QueueBounded s) (hwait : s.app.wait = some w)
    (hgone : t.app.wait = none) (hqueue : t.queue = s.queue)
    (hst : t.walker.st = if w.item.skip ∧ s.walker.st = .stallWait then .walking else s.walker.st) :
    QueueBounded t := by
  have hnone := skipWaitHeld_of_none hgone
  have hheld := skipWaitHeld_of_some hwait
  cases hskip : w.item.skip with
  | true =>
    obtain ⟨hstall, hnil⟩ := h.alone (hheld.trans hskip)
    rw [hskip, if_pos ⟨rfl, hstall⟩] at hst
    exact queueBounded_of_empty (hqueue.trans hnil) (by simp [hst]) hnone
  | false =>
    rw [hskip, if_neg (by simp)] at hst
    exact h.congr hqueue hst (by rw [hnone, hheld, hskip])

theorem skipSatisfied_st (s : State) :
    (skipSatisfied s).walker.st = if s.walker.st = .stallWait then .walking else s.walker.st := by
  unfold skipSatisfied
  split
  · simp only
    split <;> rfl
  · rfl

theorem skipTimedOut_st (s : State) :
    (skipTimedOut s).walker.st = if s.walker.st = .stallWait then .walking else s.walker.st := by
  unfold skipTimedOut
  split <;> rfl

theorem satisfyWait_queueBounded {w : WaitProgress} {s : State} (h : QueueBounded s) (hwait : s.app.wait = some w) :
    QueueBounded (satisfyWait w s) := by
  simp only [satisfyWait]
  refine enterPriming_queueBounded (h.endWait hwait ?_ ?_ ?_)
  all_goals cases hskip : w.item.skip <;> simp [skipSatisfied_st]

theorem timeoutWait_queueBounded {w : WaitProgress} {s : State} (h : QueueBounded s) (hwait : s.app.wait = some w) :
    QueueBounded (timeoutWait w s) := by
  simp only [timeoutWait]
  split
  next hskip =>
    refine enterPriming_queueBounded (h.endWait hwait ?_ ?_ ?_)
    all_goals simp [skipTimedOut_st, hskip]
  · exact enterStopping_queueBounded _ _ _ _

/-- The wait in progress goes on. -/
theorem QueueBounded.wait {s t : State} {w w' : WaitProgress} (h : QueueBounded s) (hwait : s.app.wait = some w)
    (hwait' : t.app.wait = some w') (hitem : w'.item = w.item) (hqueue : t.queue = s.queue)
    (hwalker : t.walker = s.walker) : QueueBounded t :=
  h.congr hqueue (by rw [hwalker]) (by rw [skipWaitHeld_of_some hwait, skipWaitHeld_of_some hwait', hitem])

theorem matchSample_queueBounded {w : WaitProgress} (pads : Vector HW 4) {s : State} (h : QueueBounded s)
    (hwait : s.app.wait = some w) : QueueBounded (matchSample w pads s) := by
  simp only [matchSample]
  split
  · exact satisfyWait_queueBounded (h.wait hwait rfl rfl rfl rfl) rfl
  · exact h.wait hwait rfl rfl rfl rfl

theorem endWaitPeriod_queueBounded {w : WaitProgress} {s : State} (h : QueueBounded s) (hwait : s.app.wait = some w) :
    QueueBounded (endWaitPeriod w s) := by
  simp only [endWaitPeriod]
  split
  · exact h.wait hwait rfl rfl rfl rfl
  · split
    · exact timeoutWait_queueBounded (h.wait hwait rfl rfl rfl rfl) rfl
    · exact h.wait hwait rfl rfl rfl rfl

theorem restartWaitPeriod_skipWaitHeld (s : State) : skipWaitHeld (restartWaitPeriod s) = skipWaitHeld s := by
  cases hwait : s.app.wait <;> simp [restartWaitPeriod, skipWaitHeld, hwait]

theorem tickWait_skipWaitHeld (s : State) : skipWaitHeld (tickWait s) = skipWaitHeld s := by
  unfold tickWait
  split
  · cases hwait : s.app.wait <;> simp [skipWaitHeld, hwait]
  · rfl

theorem tick_skipWaitHeld (s : State) : skipWaitHeld (tick s) = skipWaitHeld s := by
  unfold tick
  split
  · rfl
  · calc
      skipWaitHeld (tickMemory (tickStarve (tickWait (tickPeriod s))))
      _ = skipWaitHeld (tickWait (tickPeriod s)) := skipWaitHeld_congr (by simp)
      _ = skipWaitHeld (tickPeriod s) := tickWait_skipWaitHeld _
      _ = skipWaitHeld s := skipWaitHeld_congr (by simp)

/-! ## The walker's steps -/

/-- A walker that walks, or walks on from STALL_READY, has a place for the item its step pushes. -/
theorem WalkerStep.queueBounded {s t : State} (hstep : WalkerStep s t) (h : QueueBounded s)
    (hst : s.walker.st = .walking ∨ s.walker.st = .stallReady) (hwait : t.app.wait = s.app.wait) : QueueBounded t := by
  obtain ⟨_, hplace, hno, _⟩ := h
  have hplace := hplace hst
  obtain ⟨hany, hnone⟩ := hno (by rintro hstall; simp [hstall] at hst)
  rw [← skipWaitHeld_congr hwait] at hnone
  cases hstep with
  | onward hqueue hst' =>
    refine ⟨?_, fun _ => ?_, fun _ => ⟨?_, hnone⟩, fun hstall => ?_⟩
    · exact hqueue ▸ hplace.le
    · exact hqueue ▸ hplace
    · exact hqueue ▸ hany
    · simp [hstall] at hst'
  | fault code tags _ hqueue hst' | endChain tags hqueue hst' =>
    refine ⟨?_, fun hwalks => ?_, fun _ => ⟨?_, hnone⟩, fun hstall => ?_⟩
    · rw [hqueue, List.length_append]
      exact hplace
    · simp [hst'] at hwalks
    · rw [hqueue, List.any_append, hany]
      rfl
    · simp [hst'] at hstall
  | vector v tags eop _ hqueue hst' =>
    have hlen : t.queue.length ≤ 8 := by
      rw [hqueue, List.length_append]
      exact hplace
    refine ⟨hlen, fun hwalks => ?_, fun _ => ⟨?_, hnone⟩, fun hstall => ?_⟩
    · by_contra hfull
      rw [hst', if_pos (Nat.le_of_not_lt hfull)] at hwalks
      simp at hwalks
    · rw [hqueue, List.any_append, hany]
      rfl
    · rw [hst'] at hstall
      split at hstall <;> cases hstall
  | wait w tags hqueue hst' =>
    have hlen : t.queue.length ≤ 8 := by
      rw [hqueue, List.length_append]
      exact hplace
    cases hskip : w.skip with
    | true =>
      rw [hskip, if_pos rfl] at hst'
      refine ⟨hlen, fun hwalks => ?_, fun hnot => absurd hst' hnot, fun _ => .inr ⟨hnone, _, w, tags, hqueue, hskip, hany⟩⟩
      simp [hst'] at hwalks
    | false =>
      rw [hskip, if_neg Bool.false_ne_true] at hst'
      refine ⟨hlen, fun hwalks => ?_, fun _ => ⟨?_, hnone⟩, fun hstall => ?_⟩
      · by_contra hfull
        rw [hst', if_pos (Nat.le_of_not_lt hfull)] at hwalks
        simp at hwalks
      · rw [hqueue, List.any_append, hany, List.any_cons, Item.isSkipWait, hskip]
        rfl
      · rw [hst'] at hstall
        split at hstall <;> cases hstall

theorem resolveNotReady_queueBounded {s : State} (h : QueueBounded s) : QueueBounded (resolveNotReady s) := by
  simp only [resolveNotReady]
  split
  · exact enterPriming_queueBounded (h.frame rfl rfl rfl)
  · exact h.frame rfl rfl rfl

theorem readyPending_queueBounded (n : SegIdx) {s : State} (h : QueueBounded s) : QueueBounded (readyPending n s) := by
  unfold readyPending
  split
  next hstalled =>
    exact resolveNotReady_queueBounded ((walkerArrive_step n _ s).queueBounded h (.inr hstalled.1) (by simp))
  · exact h

/-! ## Every row -/

theorem RowEffect.keeps_queueBounded {s t : State} (heffect : RowEffect s t) (h : QueueBounded s) : QueueBounded t := by
  cases heffect with
  | quiet _ hq => exact h.frame hq.queue (by rw [hq.walker]) (by rw [hq.app])
  | discard _ hq => exact h.frame (by simp [hq.queue]) (by simp [hq.walker]) (by simp [hq.app])
  | windowFreed _ _ hq => exact h.frame (by simp [hq.queue]) (by simp [hq.walker]) (by simp [hq.app])
  | windowWrote _ _ _ _ hq => exact h.frame (by simp [hq.queue]) (by simp [hq.walker]) (by simp [hq.app])
  | start => exact queueBounded_of_empty rfl nofun rfl
  | arm => exact queueBounded_of_empty rfl nofun rfl
  | pause => exact enterPaused_queueBounded _ _ h
  | rewait =>
    exact enterWaiting_queueBounded _ (h.congr (by simp) (by simp) (restartWaitPeriod_skipWaitHeld s))
  | restall => exact enterWaiting_queueBounded _ h
  | reprime => exact enterPriming_queueBounded h
  | abort => exact enterStopping_queueBounded _ _ _ _
  | ready _ n => exact readyPending_queueBounded n h
  | softReset => exact queueBounded_of_empty rfl nofun rfl
  | arrive hst i loopBack => exact (walkerArrive_step i loopBack s).queueBounded h (.inl hst) (by simp)
  | pushWait hst c => exact (pushWaitItem_step c s).queueBounded h (.inl hst) (by simp)
  | fetchZone hst => exact (pushFault_step (by decide) _ s).queueBounded h (.inl hst) (by simp)
  | fetched hst _ c => exact ((fetchRecord_step c.img (freePort s)).congr rfl rfl).queueBounded h (.inl hst) (by simp)
  | leave hst c => exact (leaveNormally_step c hst).queueBounded h (.inl hst) (by simp)
  | leaveAlt hst c => exact (leaveThroughAlt_step c hst).queueBounded h (.inl hst) (by simp)
  | taking => exact taking_queueBounded h
  | endPeriod p => exact endPeriod_queueBounded p h
  | matchSample _ w hwait pads => exact matchSample_queueBounded pads h hwait
  | endWaitPeriod _ w hwait => exact endWaitPeriod_queueBounded h hwait
  | satisfyWait _ w hwait => exact satisfyWait_queueBounded h hwait
  | starved => exact enterStopping_queueBounded _ _ _ _
  | resetFalls => exact queueBounded_of_empty rfl nofun rfl
  | _ => exact h.frame (by simp) (by simp) (by simp)

/-- Settles O7: an item is pushed only where the walker has a place, and behind a SKIP wait the walker stops until the wait
has ended, when the queue is empty. -/
theorem stepKeepsQueueBounded : Obligations.StepKeepsQueueBounded := by
  refine step_keeps (fun s rest h => h) (fun s h => ?tick) (fun s h => ?arbitrate)
    (fun s t heffect h => heffect.keeps_queueBounded h) fun s msize _ => ?por
  case tick => exact h.congr (by simp) (by simp) (tick_skipWaitHeld s)
  case arbitrate => exact h.frame (by simp) (by simp) (by simp)
  case por => exact queueBounded_of_empty rfl nofun rfl

end Sys2Proof.Machine
end

section
/-! Nothing plays where the sequencer rests (R55, R78, R81, R99): in IDLE, STOPPING, ENDED and FAULTED the walker is STOPPED,
the queue empty and the applier HELD, and a step keeps it so. -/

namespace Sys2Proof.Machine

/-- The walker, the queue and the applier hold what they hold at rest. -/
structure AtRest (s : State) : Prop where
  walker : s.walker = Walker.stoppedState
  queue : s.queue = []
  stream : s.app.stream = .held
  period : s.app.period = none
  wait : s.app.wait = none

theorem restsWhenStopped_iff {s : State} : RestsWhenStopped s ↔ (s.run.state.atRest = true → AtRest s) := by
  constructor
  · intro h hstate
    obtain ⟨hwalker, hqueue, hstream, hperiod, hwait⟩ := h hstate
    exact ⟨hwalker, hqueue, hstream, hperiod, hwait⟩
  · intro h hstate
    obtain ⟨hwalker, hqueue, hstream, hperiod, hwait⟩ := h hstate
    exact ⟨hwalker, hqueue, hstream, hperiod, hwait⟩

theorem AtRest.restsWhenStopped {s : State} (h : AtRest s) : RestsWhenStopped s := restsWhenStopped_iff.mpr fun _ => h

theorem RestsWhenStopped.atRest {s : State} (h : RestsWhenStopped s) (hstate : s.run.state.atRest = true) : AtRest s :=
  restsWhenStopped_iff.mp h hstate

theorem restsWhenStopped_of_plays {s : State} (hplays : s.run.state.atRest = false) : RestsWhenStopped s :=
  fun hstate => by simp [hplays] at hstate

theorem AtRest.frame {s t : State} (h : AtRest s) (hwalker : t.walker = s.walker) (hqueue : t.queue = s.queue)
    (happ : t.app = s.app) : AtRest t where
  walker := hwalker.trans h.walker
  queue := hqueue.trans h.queue
  stream := happ ▸ h.stream
  period := happ ▸ h.period
  wait := happ ▸ h.wait

/-- A state with the same walker, queue and applier, that rests only if the old one does. -/
theorem RestsWhenStopped.frame {s t : State} (h : RestsWhenStopped s)
    (hstate : t.run.state.atRest = true → s.run.state.atRest = true) (hwalker : t.walker = s.walker)
    (hqueue : t.queue = s.queue) (happ : t.app = s.app) : RestsWhenStopped t :=
  restsWhenStopped_iff.mpr fun hrest => (h.atRest (hstate hrest)).frame hwalker hqueue happ

/-! ## What shows that the sequencer plays -/

theorem RestsWhenStopped.plays_of_walker {s : State} (h : RestsWhenStopped s) (hst : s.walker.st ≠ .stopped) :
    s.run.state.atRest = false := by
  by_contra hrest
  exact hst (by rw [(h.atRest (by simpa using hrest)).walker]; rfl)

theorem RestsWhenStopped.plays_of_walking {s : State} (h : RestsWhenStopped s) (hst : s.walker.st = .walking) :
    s.run.state.atRest = false := h.plays_of_walker (by simp [hst])

theorem RestsWhenStopped.plays_of_period {s : State} {p : Period} (h : RestsWhenStopped s)
    (hperiod : s.app.period = some p) : s.run.state.atRest = false := by
  by_contra hrest
  simp [(h.atRest (by simpa using hrest)).period] at hperiod

/-! ## The shared operations -/

theorem enterStopping_atRest (cause : Cause) (code : FaultCode) (pos : Tags) (s : State) :
    AtRest (enterStopping cause code pos s) := by
  constructor <;> simp [enterStopping, requestsClear, applierStop, walkerStop]

theorem enterStopping_rests (cause : Cause) (code : FaultCode) (pos : Tags) (s : State) :
    RestsWhenStopped (enterStopping cause code pos s) := (enterStopping_atRest cause code pos s).restsWhenStopped

theorem enterPaused_rests (cause : Cause) (suspended : Option Cause) (s : State) :
    RestsWhenStopped (enterPaused cause suspended s) := restsWhenStopped_of_plays (by simp [enterPaused, SeqState.atRest])

theorem enterWaiting_rests (cause : Cause) (s : State) : RestsWhenStopped (enterWaiting cause s) :=
  restsWhenStopped_of_plays (by simp [enterWaiting, SeqState.atRest])

theorem taking_rests (s : State) : RestsWhenStopped (taking s) := by
  unfold taking
  split
  · unfold takeVector
    split
    · exact enterPaused_rests _ none _
    · exact restsWhenStopped_of_plays (by simp [beginPeriod, SeqState.atRest])
  · exact enterWaiting_rests _ _
  · exact enterStopping_rests _ _ _ _
  · exact enterStopping_rests _ _ _ _
  · unfold takeEmpty
    split
    · exact enterWaiting_rests _ _
    · exact enterStopping_rests _ _ _ _

theorem enterPriming_rests (s : State) : RestsWhenStopped (enterPriming s) := by
  simp only [enterPriming]
  split
  · exact taking_rests _
  · exact restsWhenStopped_of_plays rfl

theorem endPeriod_rests (p : Period) (s : State) : RestsWhenStopped (endPeriod p s) := by
  simp only [endPeriod]
  split
  · exact enterStopping_rests _ _ _ _
  · split
    · exact enterPaused_rests _ none _
    · exact taking_rests _

theorem timeoutWait_rests (w : WaitProgress) (s : State) : RestsWhenStopped (timeoutWait w s) := by
  simp only [timeoutWait]
  split
  · exact enterPriming_rests _
  · exact enterStopping_rests _ _ _ _

theorem matchSample_rests (w : WaitProgress) (pads : Vector HW 4) {s : State} (hplays : s.run.state.atRest = false) :
    RestsWhenStopped (matchSample w pads s) := by
  simp only [matchSample]
  split
  · exact enterPriming_rests _
  · exact restsWhenStopped_of_plays hplays

theorem endWaitPeriod_rests (w : WaitProgress) {s : State} (hplays : s.run.state.atRest = false) :
    RestsWhenStopped (endWaitPeriod w s) := by
  simp only [endWaitPeriod]
  split
  · exact restsWhenStopped_of_plays hplays
  · split
    · exact timeoutWait_rests _ _
    · exact restsWhenStopped_of_plays hplays

theorem resolveNotReady_rests {s : State} (hplays : s.run.state.atRest = false) :
    RestsWhenStopped (resolveNotReady s) := by
  simp only [resolveNotReady]
  split
  · exact enterPriming_rests _
  · exact restsWhenStopped_of_plays hplays

theorem readyPending_rests (n : SegIdx) {s : State} (h : RestsWhenStopped s) : RestsWhenStopped (readyPending n s) := by
  unfold readyPending
  split
  next hstalled => exact resolveNotReady_rests (by simpa using h.plays_of_walker (by simp [hstalled.1]))
  · exact h

theorem shortenDrain_rests {s : State} (h : RestsWhenStopped s) (hstopping : s.run.state = .stopping) :
    RestsWhenStopped (shortenDrain s) :=
  h.frame (fun _ => by simp [hstopping, SeqState.atRest]) (by simp) (by simp) (by simp)

theorem publish_rests (r : LogRecord) (rest : List LogRecord) {s : State} (h : RestsWhenStopped s) :
    RestsWhenStopped (publish r rest s) := by
  refine h.frame (fun hrest => ?_) (by simp) (by simp) (by simp)
  by_contra hplays
  have hstate : s.run.state ≠ .stopping := fun hstopping => hplays (by simp [hstopping, SeqState.atRest])
  simp [publish, drainAfterPublication, hstate] at hrest
  exact hplays hrest

/-! ## Every row -/

theorem RowEffect.keeps_restsWhenStopped {s t : State} (heffect : RowEffect s t) (h : RestsWhenStopped s) :
    RestsWhenStopped t := by
  cases heffect with
  | quiet _ hq => exact h.frame (fun hrest => hq.state ▸ hrest) hq.walker hq.queue hq.app
  | discard _ hq => exact h.frame (by simp [hq.state]) (by simp [hq.walker]) (by simp [hq.queue]) (by simp [hq.app])
  | windowFreed _ _ hq =>
    exact h.frame (by simp [hq.state]) (by simp [hq.walker]) (by simp [hq.queue]) (by simp [hq.app])
  | windowWrote _ _ _ _ hq =>
    exact h.frame (by simp [hq.state]) (by simp [hq.walker]) (by simp [hq.queue]) (by simp [hq.app])
  | start => exact restsWhenStopped_of_plays rfl
  | arm => exact restsWhenStopped_of_plays rfl
  | pause => exact enterPaused_rests _ _ _
  | rewait => exact enterWaiting_rests _ _
  | restall => exact enterWaiting_rests _ _
  | reprime => exact enterPriming_rests _
  | abort => exact enterStopping_rests _ _ _ _
  | shorten _ hstopping _ => exact shortenDrain_rests h hstopping
  | clear _ hstate =>
    refine h.frame (fun _ => ?_) rfl rfl rfl
    obtain hstate | hstate := hstate <;> rw [hstate] <;> rfl
  | ready _ n => exact readyPending_rests n h
  | softReset => exact AtRest.restsWhenStopped ⟨rfl, rfl, rfl, rfl, rfl⟩
  | arrive hst => exact restsWhenStopped_of_plays (by simpa using h.plays_of_walking hst)
  | pushWait hst => exact restsWhenStopped_of_plays (by simpa using h.plays_of_walking hst)
  | fetchZone hst => exact restsWhenStopped_of_plays (by simpa using h.plays_of_walking hst)
  | fetched hst => exact restsWhenStopped_of_plays (by simpa using h.plays_of_walking hst)
  | leave hst => exact restsWhenStopped_of_plays (by simpa using h.plays_of_walking hst)
  | leaveAlt hst => exact restsWhenStopped_of_plays (by simpa using h.plays_of_walking hst)
  | taking => exact taking_rests s
  | endPeriod p => exact endPeriod_rests p s
  | driveEdge p hperiod => exact restsWhenStopped_of_plays (by simpa using h.plays_of_period hperiod)
  | strobe p hperiod => exact restsWhenStopped_of_plays (by simpa using h.plays_of_period hperiod)
  | matchSample hstate w _ pads => exact matchSample_rests w pads (by rw [hstate]; rfl)
  | endWaitPeriod hstate w => exact endWaitPeriod_rests w (by rw [hstate]; rfl)
  | satisfyWait => exact enterPriming_rests _
  | starved => exact enterStopping_rests _ _ _ _
  | published _ r rest => exact publish_rests r rest (h.frame id rfl rfl rfl)
  | resetFalls => exact AtRest.restsWhenStopped ⟨rfl, rfl, rfl, rfl, rfl⟩
  | _ => exact h.frame (by simp) (by simp) (by simp) (by simp)

/-- At rest a tick moves no period and no wait. -/
theorem tick_rests {s : State} (h : RestsWhenStopped s) : RestsWhenStopped (tick s) := by
  refine restsWhenStopped_iff.mpr fun hrest => ?_
  have hs := h.atRest (by simpa using hrest)
  unfold tick
  split
  · exact hs
  · refine ⟨?_, ?_, ?_, ?_, ?_⟩
    · simpa using hs.walker
    · simpa using hs.queue
    · simpa using hs.stream
    · simp [tickPeriod, hs.period]
    · simp [tickWait, hs.wait, waitIs]

end Sys2Proof.Machine
end

section
/-! Ports in standby (01_pins_ports_and_lanes.md, R3): their pins stay RECEIVE, since no vector that is queued or played names
one. -/

namespace Sys2Proof.Machine

/-- The pins of a standby port are RECEIVE. -/
def StandbyReceives (s : State) : Prop := ∀ p : Port, s.ports.cfg[p].enabled = false → s.ports.pins[p].dir = 0

/-- A vector queued or played names enabled ports alone. -/
structure VectorsEnabled (s : State) : Prop where
  period : ∀ p ∈ s.app.period, portsEnabled s p.vec
  queue : ∀ v t eop, Item.vector v t eop ∈ s.queue → portsEnabled s v

theorem standbyPinsReceive_iff {s : State} :
    StandbyPinsReceive s ↔ RestsWhenStopped s ∧ StandbyReceives s ∧ VectorsEnabled s :=
  ⟨fun ⟨hrests, hpins, hperiod, hqueue⟩ => ⟨hrests, hpins, hperiod, hqueue⟩,
    fun ⟨hrests, hpins, hperiod, hqueue⟩ => ⟨hrests, hpins, hperiod, hqueue⟩⟩

/-! ## The pins of standby ports -/

theorem StandbyReceives.frame {s t : State} (h : StandbyReceives s) (hports : t.ports = s.ports) : StandbyReceives t := by
  unfold StandbyReceives
  rw [hports]
  exact h

/-- Park application drives the pins of enabled ports alone (R2). -/
theorem StandbyReceives.park {s t : State} (h : StandbyReceives s) (hports : t.ports = (parkAll s).ports) :
    StandbyReceives t := by
  unfold StandbyReceives
  rw [hports]
  intro p hstandby
  have hkept : parkPort s.ports.cfg[p] s.ports.pins[p] = s.ports.pins[p] := by
    rw [parkPort, show s.ports.cfg[p].enabled = false from hstandby]
    rfl
  rw [parkAll, getElem_vec4, hkept]
  exact h p hstandby

/-- A port put in standby has its pins at RECEIVE (R3, R5). -/
theorem StandbyReceives.setPortCfg {s : State} (h : StandbyReceives s) (p : Port) (cfg : PortCfg) :
    StandbyReceives (setPortCfg p cfg s) := by
  intro q hstandby
  by_cases hq : p = q
  · subst hq
    have hcfg : cfg.enabled = false := by simpa [Machine.setPortCfg] using hstandby
    simp [Machine.setPortCfg, hcfg]
  · have hne : p.val ≠ q.val := fun heq => hq (Fin.ext heq)
    have hold := h q
    simp only [Machine.setPortCfg, Fin.getElem_fin, Vector.getElem_set_ne _ _ hne] at hstandby ⊢
    exact hold hstandby

/-- The drive edge of a vector that names enabled ports leaves standby pins as they are (R7). -/
theorem StandbyReceives.driveEdge {s : State} (h : StandbyReceives s) {p : Period} (hvec : portsEnabled s p.vec) :
    StandbyReceives (driveEdge p s) := by
  intro q hstandby
  have hcfg : s.ports.cfg[q].enabled = false := by simpa using hstandby
  have hpins : (Machine.driveEdge p s).ports.pins = vec4 fun k => drivePort p.vec.parts[k] s.ports.pins[k] := by
    simp only [Machine.driveEdge]
    split <;> simp
  have habsent : p.vec.parts[q] = none := by
    by_contra hpresent
    rw [hvec q (Option.isSome_iff_ne_none.mpr hpresent)] at hcfg
    cases hcfg
  rw [hpins, getElem_vec4, habsent]
  exact h q hcfg

/-! ## The vectors queued and played -/

theorem portsEnabled_congr {s t : State} {v : DecodedVector} (hcfg : t.ports.cfg = s.ports.cfg) (h : portsEnabled s v) :
    portsEnabled t v := by
  unfold portsEnabled
  rw [hcfg]
  exact h

/-- A state that plays and queues no more vectors than one with the same port settings. -/
theorem VectorsEnabled.fewer {s t : State} (h : VectorsEnabled s) (hcfg : t.ports.cfg = s.ports.cfg)
    (hperiod : ∀ p ∈ t.app.period, ∃ q ∈ s.app.period, p.vec = q.vec) (hqueue : ∀ it ∈ t.queue, it ∈ s.queue) :
    VectorsEnabled t where
  period p hp := by
    obtain ⟨q, hq, hvec⟩ := hperiod p hp
    exact portsEnabled_congr hcfg (hvec ▸ h.period q hq)
  queue v t eop hv := portsEnabled_congr hcfg (h.queue v t eop (hqueue _ hv))

theorem VectorsEnabled.frame {s t : State} (h : VectorsEnabled s) (hcfg : t.ports.cfg = s.ports.cfg)
    (hperiod : t.app.period = s.app.period) (hqueue : t.queue = s.queue) : VectorsEnabled t :=
  h.fewer hcfg (fun p hp => ⟨p, hperiod ▸ hp, rfl⟩) fun _ hit => hqueue ▸ hit

theorem vectorsEnabled_of_none {s : State} (hperiod : s.app.period = none) (hqueue : s.queue = []) :
    VectorsEnabled s where
  period p hp := by simp [hperiod] at hp
  queue v t eop hv := by simp [hqueue] at hv

theorem AtRest.vectorsEnabled {s : State} (h : AtRest s) : VectorsEnabled s := vectorsEnabled_of_none h.period h.queue

theorem WalkerStep.vectorsEnabled {s t : State} (hstep : WalkerStep s t) (h : VectorsEnabled s)
    (hcfg : t.ports.cfg = s.ports.cfg) (hperiod : t.app.period = s.app.period) : VectorsEnabled t := by
  have hqueued : ∀ it, t.queue = s.queue ++ [it] →
      (∀ v tags eop, it = .vector v tags eop → portsEnabled s v) → VectorsEnabled t := fun it hqueue hit =>
    { period := fun p hp => portsEnabled_congr hcfg (h.period p (hperiod ▸ hp))
      queue := fun v tags eop hv => by
        refine portsEnabled_congr hcfg ?_
        rw [hqueue] at hv
        obtain hv | hv := List.mem_append.mp hv
        · exact h.queue v tags eop hv
        · exact hit v tags eop (List.mem_singleton.mp hv).symm }
  cases hstep with
  | onward hqueue => exact h.frame hcfg hperiod hqueue
  | fault _ _ _ hqueue | endChain _ hqueue | wait _ _ hqueue => exact hqueued _ hqueue nofun
  | vector v tags eop hen hqueue =>
    refine hqueued _ hqueue fun v' tags' eop' heq => ?_
    obtain ⟨rfl, _, _⟩ := Item.vector.inj heq
    exact hen

/-! ## The shared operations -/

/-- The part of the invariant that the shared operations keep in whatever state the sequencer is. -/
structure StandbySafe (s : State) : Prop where
  receives : StandbyReceives s
  vectors : VectorsEnabled s

theorem StandbySafe.frame {s t : State} (h : StandbySafe s) (hports : t.ports = s.ports)
    (hperiod : t.app.period = s.app.period) (hqueue : t.queue = s.queue) : StandbySafe t :=
  ⟨h.receives.frame hports, h.vectors.frame (by rw [hports]) hperiod hqueue⟩

/-- A state that queues fewer items, with no period or the same one. -/
theorem StandbySafe.fewer {s t : State} (h : StandbySafe s) (hports : t.ports = s.ports)
    (hperiod : ∀ p ∈ t.app.period, ∃ q ∈ s.app.period, p.vec = q.vec) (hqueue : ∀ it ∈ t.queue, it ∈ s.queue) :
    StandbySafe t := ⟨h.receives.frame hports, h.vectors.fewer (by rw [hports]) hperiod hqueue⟩

theorem enterStopping_ports (cause : Cause) (code : FaultCode) (pos : Tags) (s : State) :
    (enterStopping cause code pos s).ports = (parkAll s).ports := by
  simp [enterStopping, requestsClear, applierStop, walkerStop, parkAll]

theorem enterStopping_standbySafe (cause : Cause) (code : FaultCode) (pos : Tags) {s : State} (h : StandbyReceives s) :
    StandbySafe (enterStopping cause code pos s) :=
  ⟨h.park (enterStopping_ports cause code pos s), (enterStopping_atRest cause code pos s).vectorsEnabled⟩

theorem enterPaused_standbySafe (cause : Cause) (suspended : Option Cause) {s : State} (h : StandbySafe s) :
    StandbySafe (enterPaused cause suspended s) := h.frame (by simp) (by simp) (by simp)

theorem enterWaiting_standbySafe (cause : Cause) {s : State} (h : StandbySafe s) :
    StandbySafe (enterWaiting cause s) := h.frame (by simp) (by simp) (by simp)

theorem beginPeriod_standbySafe {v : DecodedVector} (t : Tags) (eop : Bool) {s : State} (h : StandbySafe s)
    (hv : portsEnabled s v) : StandbySafe (beginPeriod v t eop s) := by
  refine ⟨h.receives.frame (by simp), fun p hp => ?_, fun v' t' eop' hv' => ?_⟩
  · have hvec : p.vec = v := by
      simp [beginPeriod] at hp
      rw [← hp]
    exact portsEnabled_congr (by simp) (hvec ▸ hv)
  · exact portsEnabled_congr (by simp) (h.vectors.queue v' t' eop' (by simpa using hv'))

theorem dropHead_standbySafe {it : Item} {rest : List Item} {s : State} (h : StandbySafe s)
    (hhead : s.queue = it :: rest) : StandbySafe (dropHead rest s) :=
  h.fewer rfl (fun p hp => ⟨p, hp, rfl⟩) fun _ hit => hhead ▸ List.mem_cons_of_mem it hit

theorem taking_standbySafe {s : State} (h : StandbySafe s) : StandbySafe (taking s) := by
  unfold taking
  split
  next v t eop rest hhead =>
    unfold takeVector
    split
    · exact enterPaused_standbySafe _ none (h.frame rfl rfl rfl)
    · exact beginPeriod_standbySafe t eop (dropHead_standbySafe h hhead)
        (h.vectors.queue v t eop (hhead ▸ List.mem_cons_self))
  next w t rest hhead => exact enterWaiting_standbySafe _ ((dropHead_standbySafe h hhead).frame rfl rfl rfl)
  · exact enterStopping_standbySafe _ _ _ (h.receives.frame rfl)
  · exact enterStopping_standbySafe _ _ _ (h.receives.frame rfl)
  · unfold takeEmpty
    split
    · exact enterWaiting_standbySafe _ (h.frame rfl rfl rfl)
    · exact enterStopping_standbySafe _ _ _ h.receives

theorem enterPriming_standbySafe {s : State} (h : StandbySafe s) : StandbySafe (enterPriming s) := by
  simp only [enterPriming]
  split
  · exact taking_standbySafe (h.frame rfl rfl rfl)
  · exact h.frame rfl rfl rfl

theorem endPeriod_standbySafe (p : Period) {s : State} (h : StandbySafe s) : StandbySafe (endPeriod p s) := by
  have hended : ∀ {t : State}, t.ports = s.ports → t.app.period = none → t.queue = s.queue → StandbySafe t :=
    fun hports hperiod hqueue => h.fewer hports (by simp [hperiod]) (by simp [hqueue])
  simp only [endPeriod]
  split
  · exact enterStopping_standbySafe _ _ _ (h.receives.frame (by simp))
  · split
    · exact enterPaused_standbySafe _ none (hended (by simp) rfl (by simp))
    · exact taking_standbySafe (hended (by simp) rfl (by simp))

theorem satisfyWait_standbySafe (w : WaitProgress) {s : State} (h : StandbySafe s) : StandbySafe (satisfyWait w s) := by
  simp only [satisfyWait]
  refine enterPriming_standbySafe ?_
  split
  · exact h.frame (by simp) (by simp) (by simp)
  · exact h.frame rfl rfl rfl

theorem timeoutWait_standbySafe (w : WaitProgress) {s : State} (h : StandbySafe s) : StandbySafe (timeoutWait w s) := by
  simp only [timeoutWait]
  split
  · exact enterPriming_standbySafe (h.frame (by simp) (by simp) (by simp))
  · exact enterStopping_standbySafe _ _ _ (h.receives.frame (by simp))

theorem matchSample_standbySafe (w : WaitProgress) (pads : Vector HW 4) {s : State} (h : StandbySafe s) :
    StandbySafe (matchSample w pads s) := by
  simp only [matchSample]
  split
  · exact satisfyWait_standbySafe _ (h.frame rfl rfl rfl)
  · exact h.frame rfl rfl rfl

theorem endWaitPeriod_standbySafe (w : WaitProgress) {s : State} (h : StandbySafe s) :
    StandbySafe (endWaitPeriod w s) := by
  simp only [endWaitPeriod]
  split
  · exact h.frame rfl rfl rfl
  · split
    · exact timeoutWait_standbySafe _ (h.frame rfl rfl rfl)
    · exact h.frame rfl rfl rfl

theorem WalkerStep.standbySafe {s t : State} (hstep : WalkerStep s t) (h : StandbySafe s) (hports : t.ports = s.ports)
    (hperiod : t.app.period = s.app.period) : StandbySafe t :=
  ⟨h.receives.frame hports, hstep.vectorsEnabled h.vectors (by rw [hports]) hperiod⟩

theorem resolveNotReady_standbySafe {s : State} (h : StandbySafe s) : StandbySafe (resolveNotReady s) := by
  simp only [resolveNotReady]
  split
  · exact enterPriming_standbySafe (h.frame rfl rfl rfl)
  · exact h.frame rfl rfl rfl

theorem readyPending_standbySafe (n : SegIdx) {s : State} (h : StandbySafe s) : StandbySafe (readyPending n s) := by
  unfold readyPending
  split
  · exact resolveNotReady_standbySafe ((walkerArrive_step n _ s).standbySafe h (by simp) (by simp))
  · exact h

/-- The strobe keeps the period's vector. -/
theorem strobe_period_vec (p : Period) (pads : Vector HW 4) (s : State) :
    ∀ q ∈ (strobe p pads s).app.period, q.vec = p.vec := by
  intro q hq
  have hperiod : (strobe p pads s).app.period = some { p with strobed := true, tick := p.vec.timing.stb.toNat } := by
    simp only [strobe]
    (repeat' split) <;> simp
  rw [hperiod] at hq
  obtain rfl := Option.mem_some.mp hq
  rfl

theorem driveEdge_period_vec (p : Period) (s : State) : ∀ q ∈ (driveEdge p s).app.period, q.vec = p.vec := by
  intro q hq
  have hperiod : (driveEdge p s).app.period = some { p with driven := true, tick := p.vec.timing.drv.toNat } := by
    simp only [driveEdge]
    split <;> simp
  rw [hperiod] at hq
  obtain rfl := Option.mem_some.mp hq
  rfl

/-- A tick keeps the period's vector. -/
theorem tick_period_vec (s : State) : ∀ p ∈ (tick s).app.period, ∃ q ∈ s.app.period, p.vec = q.vec := by
  intro p hp
  unfold tick at hp
  split at hp
  · exact ⟨p, hp, rfl⟩
  · have hperiod : (tickMemory (tickStarve (tickWait (tickPeriod s)))).app.period =
        s.app.period.map fun q => { q with tick := q.tick + 1 } := by simp [tickPeriod]
    rw [hperiod] at hp
    obtain ⟨q, hq, rfl⟩ := Option.mem_map.mp hp
    exact ⟨q, hq, rfl⟩

/-! ## Every row -/

/-- Where no run is active the sequencer rests. -/
theorem atRest_of_runActive_false {s : State} (hidle : runActive s = false) : s.run.state.atRest = true := by
  unfold runActive at hidle
  cases hstate : s.run.state <;> simp [hstate] at hidle <;> rfl

theorem ports_por_receive : ∀ p : Port, Ports.por.pins[p].dir = 0 := by decide

theorem RowEffect.keeps_standbySafe {s t : State} (heffect : RowEffect s t) (hrests : RestsWhenStopped s)
    (h : StandbySafe s) : StandbySafe t := by
  cases heffect with
  | quiet _ hq => exact h.frame hq.ports (by rw [hq.app]) hq.queue
  | discard _ hq => exact h.frame (by simp [hq.ports]) (by simp [hq.app]) (by simp [hq.queue])
  | windowFreed _ _ hq => exact h.frame (by simp [hq.ports]) (by simp [hq.app]) (by simp [hq.queue])
  | windowWrote _ _ _ _ hq => exact h.frame (by simp [hq.ports]) (by simp [hq.app]) (by simp [hq.queue])
  | start =>
    exact ⟨h.receives.frame (by simp), vectorsEnabled_of_none rfl rfl⟩
  | arm => exact ⟨h.receives.frame (by simp), vectorsEnabled_of_none rfl rfl⟩
  | pause => exact enterPaused_standbySafe _ _ h
  | rewait => exact enterWaiting_standbySafe _ (h.frame (by simp) (by simp) (by simp))
  | restall => exact enterWaiting_standbySafe _ h
  | reprime => exact enterPriming_standbySafe h
  | abort => exact enterStopping_standbySafe _ _ _ h.receives
  | ready _ n => exact readyPending_standbySafe n h
  | softReset _ n =>
    have hended : StandbyReceives (softResetWindow (endWriterGrant n s)) := h.receives.frame (by simp)
    exact ⟨hended.park rfl, vectorsEnabled_of_none rfl rfl⟩
  | portcfg _ hidle p cfg =>
    obtain ⟨_, hqueue, _, hperiod, _⟩ := hrests.atRest (atRest_of_runActive_false hidle)
    exact ⟨h.receives.setPortCfg p cfg, vectorsEnabled_of_none hperiod hqueue⟩
  | arrive _ i loopBack => exact (walkerArrive_step i loopBack s).standbySafe h (by simp) (by simp)
  | pushWait _ c => exact (pushWaitItem_step c s).standbySafe h (by simp) (by simp)
  | fetchZone => exact (pushFault_step (by decide) _ s).standbySafe h (by simp) (by simp)
  | fetched _ _ c =>
    exact (fetchRecord_step c.img (freePort s)).standbySafe (h.frame rfl rfl rfl) (by simp) (by simp)
  | leave hst c => exact (leaveNormally_step c hst).standbySafe h (by simp) (by simp)
  | leaveAlt hst c => exact (leaveThroughAlt_step c hst).standbySafe h (by simp) (by simp)
  | taking => exact taking_standbySafe h
  | endPeriod p => exact endPeriod_standbySafe p h
  | driveEdge p hperiod =>
    exact ⟨h.receives.driveEdge (h.vectors.period p hperiod), h.vectors.fewer (by simp)
      (fun q hq => ⟨p, hperiod, driveEdge_period_vec p s q hq⟩) (by simp)⟩
  | strobe p hperiod pads =>
    exact h.fewer (by simp) (fun q hq => ⟨p, hperiod, strobe_period_vec p pads s q hq⟩) (by simp)
  | matchSample _ w _ pads => exact matchSample_standbySafe w pads h
  | endWaitPeriod _ w => exact endWaitPeriod_standbySafe w h
  | satisfyWait _ w => exact satisfyWait_standbySafe w h
  | starved => exact enterStopping_standbySafe _ _ _ h.receives
  | resetFalls => exact ⟨fun p _ => ports_por_receive p, vectorsEnabled_of_none rfl rfl⟩
  | _ => exact h.frame (by simp) (by simp) (by simp)

/-- Settles O9: a fetched record names enabled ports alone, PORTCFG changes only where nothing is queued or played, and park
application and drive edges leave standby ports alone. -/
theorem stepKeepsStandbyPinsReceive : Obligations.StepKeepsStandbyPinsReceive := by
  have hkeeps : ∀ s t : State, RestsWhenStopped s ∧ StandbySafe s → step s = .next t →
      RestsWhenStopped t ∧ StandbySafe t := by
    refine step_keeps (fun s rest h => ⟨h.1, h.2.frame rfl rfl rfl⟩) (fun s h => ⟨tick_rests h.1, ?tick⟩) (fun s h => ?arbitrate)
      (fun s t heffect h => ⟨heffect.keeps_restsWhenStopped h.1, heffect.keeps_standbySafe h.1 h.2⟩) fun s msize _ => ?por
    case tick => exact h.2.fewer (by simp) (tick_period_vec s) (by simp)
    case arbitrate =>
      exact ⟨h.1.frame (by simp) (by simp) (by simp) (by simp), h.2.frame (by simp) (by simp) (by simp)⟩
    case por =>
      exact ⟨AtRest.restsWhenStopped ⟨rfl, rfl, rfl, rfl, rfl⟩, fun p _ => ports_por_receive p,
        vectorsEnabled_of_none rfl rfl⟩
  intro s t h hstep
  obtain ⟨hrests, hreceives, hvectors⟩ := standbyPinsReceive_iff.mp h
  obtain ⟨hrests', hreceives', hvectors'⟩ := hkeeps s t ⟨hrests, hreceives, hvectors⟩ hstep
  exact standbyPinsReceive_iff.mpr ⟨hrests', hreceives', hvectors'⟩

end Sys2Proof.Machine
end

section
/-! The record being written (07_the_result_log.md, R138 to R147): it is the head of the FIFO and fits the ring's room until
its publication, so that the ring never passes LOGRP. -/

namespace Sys2Proof.Machine

/-! ## The room of the ring -/

/-- The distance from `y` up to `x` round a ring of `n` places. -/
theorem ring_distance {n x y : Nat} (hx : x < n) (hy : y < n) :
    (x + n - y) % n = if y ≤ x then x - y else x + n - y := by
  split
  next hle => rw [show x + n - y = x - y + n by omega, Nat.add_mod_right, Nat.mod_eq_of_lt (by omega)]
  next hgt => exact Nat.mod_eq_of_lt (by omega)

theorem room_congr {s t : State} (hsize : t.log.size = s.log.size) (hwp : t.log.wp = s.log.wp)
    (hrp : t.log.rp = s.log.rp) : room t = room s := by
  unfold room occupancy
  rw [hsize, hwp, hrp]

/-- An advance of LOGRP within the occupancy leaves at least the old room (R143). -/
theorem room_le_of_advance {s t : State} {v : Nat} (hring : RingInRange s) (hsize : t.log.size = s.log.size)
    (hwp : t.log.wp = s.log.wp) (hrp : t.log.rp.toNat = v) (hgood : logrpBad s v = false) : room s ≤ room t := by
  obtain ⟨_, _, hin, hrpIn⟩ := hring
  simp only [logrpBad, Bool.or_eq_false_iff, decide_eq_false_iff_not, Nat.not_le, Nat.not_lt] at hgood
  obtain ⟨hv, hadvance⟩ := hgood
  unfold room occupancy at *
  rw [hsize, hwp, hrp]
  rw [ring_distance hv hrpIn, ring_distance hin hrpIn] at hadvance
  rw [ring_distance hin hv, ring_distance hin hrpIn]
  split_ifs at hadvance ⊢ <;> omega

/-! ## The invariant, without what rests -/

/-- The writer holds the port. -/
def Writing (s : State) : Prop := s.mem.grant = some .writer

/-- What `WriterHasRoom` says besides what rests. -/
structure WriterFits (s : State) : Prop where
  ring : RingInRange s
  endAlone : EndRecordAlone s
  idleEmpty : runActive s = false → s.log.fifo = []
  notAborted : s.run.state.atRest = false → s.run.drainAborted = false
  shortened : s.run.state = .stopping → s.run.drainAborted = true → Writing s ∧ s.log.fifo.length = 1
  fits : Writing s → ∃ r rest, s.log.fifo = r :: rest ∧ r.length ≤ room s

theorem writerHasRoom_iff {s : State} : WriterHasRoom s ↔ RestsWhenStopped s ∧ WriterFits s :=
  ⟨fun ⟨hrests, hring, hend, hidle, hplays, hshort, hfits⟩ => ⟨hrests, hring, hend, hidle, hplays, hshort, hfits⟩,
    fun ⟨hrests, hring, hend, hidle, hplays, hshort, hfits⟩ => ⟨hrests, hring, hend, hidle, hplays, hshort, hfits⟩⟩

theorem runActive_congr {s t : State} (hstate : t.run.state = s.run.state) : runActive t = runActive s := by
  unfold runActive
  rw [hstate]

theorem runActive_of_plays {s : State} (hplays : s.run.state.atRest = false) : runActive s = true := by
  unfold runActive
  cases hstate : s.run.state <;> simp [hstate, SeqState.atRest] at hplays ⊢

/-- An empty FIFO while the writer does not hold the port. -/
theorem writerFits_of_empty {s : State} (hring : RingInRange s) (hfifo : s.log.fifo = [])
    (haborted : s.run.drainAborted = false) (hgrant : ¬ Writing s) : WriterFits s where
  ring := hring
  endAlone r hr := by simp [hfifo] at hr
  idleEmpty _ := hfifo
  notAborted _ := haborted
  shortened _ h := by simp [haborted] at h
  fits h := absurd h hgrant

/-- Where no run is active the FIFO is empty and the port is not the writer's. -/
theorem writerFits_of_idle {s : State} (hring : RingInRange s) (hidle : runActive s = false) (hfifo : s.log.fifo = [])
    (hgrant : ¬ Writing s) : WriterFits s where
  ring := hring
  endAlone r hr := by simp [hfifo] at hr
  idleEmpty _ := hfifo
  notAborted hplays := by simp [runActive_of_plays hplays] at hidle
  shortened hstopping := by simp [runActive, hstopping] at hidle
  fits h := absurd h hgrant

/-- With an empty FIFO the writer does not hold the port. -/
theorem WriterFits.notWriting {s : State} (h : WriterFits s) (hfifo : s.log.fifo = []) : ¬ Writing s := fun hw => by
  obtain ⟨r, rest, hhead, _⟩ := h.fits hw
  simp [hfifo] at hhead

/-- A state with the same log and sequencer state, in which the writer holds the port if it did. -/
theorem WriterFits.frame {s t : State} (h : WriterFits s) (hlog : t.log = s.log)
    (hstate : t.run.state = s.run.state) (haborted : t.run.drainAborted = s.run.drainAborted)
    (hgrant : Writing t ↔ Writing s) : WriterFits t where
  ring := by
    unfold RingInRange
    rw [hlog]
    exact h.ring
  endAlone := by
    unfold EndRecordAlone
    rw [hlog, hstate]
    exact h.endAlone
  idleEmpty := by
    rw [runActive_congr hstate, hlog]
    exact h.idleEmpty
  notAborted := by
    rw [hstate, haborted]
    exact h.notAborted
  shortened := by
    rw [hstate, haborted, hlog, hgrant]
    exact h.shortened
  fits := by
    rw [hgrant, hlog, room_congr (s := s) (t := t) (by rw [hlog]) (by rw [hlog]) (by rw [hlog])]
    exact h.fits

/-- Outside STOPPING the FIFO holds no END record. -/
theorem WriterFits.noEnd {s : State} (h : WriterFits s) (hstate : s.run.state ≠ .stopping) :
    ∀ r ∈ s.log.fifo, r.kind ≠ .endRun := fun r hr hend => hstate (h.endAlone r hr hend).1

theorem ne_stopping_of_plays {s : State} (hplays : s.run.state.atRest = false) : s.run.state ≠ .stopping :=
  fun hstate => by simp [hstate, SeqState.atRest] at hplays

/-- A state that plays, as the one before it did, with the same log. -/
theorem WriterFits.playing {s t : State} (h : WriterFits s) (hs : s.run.state.atRest = false)
    (ht : t.run.state.atRest = false) (hlog : t.log = s.log) (haborted : t.run.drainAborted = s.run.drainAborted)
    (hgrant : Writing t ↔ Writing s) : WriterFits t where
  ring := by
    unfold RingInRange
    rw [hlog]
    exact h.ring
  endAlone r hr hend := absurd hend (h.noEnd (ne_stopping_of_plays hs) r (hlog ▸ hr))
  idleEmpty hidle := by simp [runActive_of_plays ht] at hidle
  notAborted _ := haborted.trans (h.notAborted hs)
  shortened hstate := absurd hstate (ne_stopping_of_plays ht)
  fits := by
    rw [hgrant, hlog, room_congr (s := s) (t := t) (by rw [hlog]) (by rw [hlog]) (by rw [hlog])]
    exact h.fits

theorem Writing.congr {s t : State} (hgrant : t.mem.grant = s.mem.grant) : Writing t ↔ Writing s := by
  unfold Writing
  rw [hgrant]

theorem discardedWalker_writer (g : Option Grant) : discardedWalker g = some .writer ↔ g = some .writer := by
  unfold discardedWalker
  split <;> simp

theorem discardedFetch_writer (g : Option Grant) : discardedFetch g = some .writer ↔ g = some .writer := by
  unfold discardedFetch
  split <;> simp

theorem writing_of_discardedWalker {s t : State} (hgrant : t.mem.grant = discardedWalker s.mem.grant) :
    Writing t ↔ Writing s := by
  unfold Writing
  rw [hgrant, discardedWalker_writer]

theorem writing_of_discardedFetch {s t : State} (hgrant : t.mem.grant = discardedFetch s.mem.grant) :
    Writing t ↔ Writing s := by
  unfold Writing
  rw [hgrant, discardedFetch_writer]

/-- Neither state's grant is the writer's. -/
theorem writing_of_other {s t : State} (hs : s.mem.grant ≠ some .writer) (ht : t.mem.grant ≠ some .writer) :
    Writing t ↔ Writing s := ⟨fun h => absurd h ht, fun h => absurd h hs⟩

@[simp] theorem freePort_grant (s : State) : (freePort s).mem.grant = none := rfl

/-! ## Records produced -/

theorem produceRecord_fifo (r : LogRecord) (s : State) :
    (produceRecord r s).log.fifo =
      if s.log.fifo.length < 16 then s.log.fifo ++ [{ r with seq := s.log.seqno }] else s.log.fifo := by
  simp only [produceRecord]
  split <;> simp

/-- A record that is not END is produced while the sequencer plays. -/
theorem WriterFits.produce {s : State} {r : LogRecord} (h : WriterFits s) (hplays : s.run.state.atRest = false)
    (hkind : r.kind ≠ .endRun) : WriterFits (produceRecord r s) where
  ring := by simpa [RingInRange] using h.ring
  endAlone r' hr' hend := by
    rw [produceRecord_fifo] at hr'
    have hold := h.noEnd (ne_stopping_of_plays hplays)
    split at hr'
    · obtain hr' | hr' := List.mem_append.mp hr'
      · exact absurd hend (hold r' hr')
      · obtain rfl := List.mem_singleton.mp hr'
        exact absurd hend hkind
    · exact absurd hend (hold r' hr')
  idleEmpty hidle := by simp [runActive_of_plays (s := produceRecord r s) (by simpa using hplays)] at hidle
  notAborted _ := by simpa using h.notAborted hplays
  shortened hstate := absurd hstate (ne_stopping_of_plays (by simpa using hplays))
  fits hw := by
    obtain ⟨head, rest, hhead, hlen⟩ := h.fits ((Writing.congr (by simp)).mp hw)
    rw [produceRecord_fifo, room_congr (s := s) (by simp) (by simp) (by simp), hhead]
    split
    · exact ⟨head, _, rfl, hlen⟩
    · exact ⟨head, rest, rfl, hlen⟩

/-- The END record comes into an empty FIFO alone. -/
theorem produceEndWhenEmpty_fifo (s : State) :
    (produceEndWhenEmpty s).log.fifo = s.log.fifo ∨
      s.log.fifo = [] ∧ ∃ r, (produceEndWhenEmpty s).log.fifo = [r] := by
  unfold produceEndWhenEmpty
  split
  next hempty => exact .inr ⟨hempty.1, by simp [produceRecord_fifo, hempty.1]⟩
  · exact .inl rfl

/-- In STOPPING with no END record in the FIFO the END record may be produced. -/
theorem writerFits_produceEnd {s : State} (hring : RingInRange s) (hstate : s.run.state = .stopping)
    (hend : ∀ r ∈ s.log.fifo, r.kind ≠ .endRun) (haborted : s.run.drainAborted = false)
    (hfits : Writing s → ∃ r rest, s.log.fifo = r :: rest ∧ r.length ≤ room s) :
    WriterFits (produceEndWhenEmpty s) where
  ring := by simpa [RingInRange] using hring
  endAlone r hr hkind := by
    refine ⟨by simpa using hstate, ?_⟩
    obtain hsame | ⟨_, e, hnew⟩ := produceEndWhenEmpty_fifo s
    · rw [hsame] at hr
      exact absurd hkind (hend r hr)
    · rw [hnew] at hr ⊢
      rw [List.mem_singleton.mp hr]
  idleEmpty hidle := by simp [runActive, hstate] at hidle
  notAborted _ := by simpa using haborted
  shortened _ h := by simp [haborted] at h
  fits hw := by
    obtain ⟨r, rest, hhead, hlen⟩ := hfits ((Writing.congr (by simp)).mp hw)
    obtain hsame | ⟨hnil, _⟩ := produceEndWhenEmpty_fifo s
    · rw [hsame, room_congr (s := s) (by simp) (by simp) (by simp)]
      exact ⟨r, rest, hhead, hlen⟩
    · simp [hhead] at hnil

/-! ## Entry to STOPPING, and the shared operations of a run -/

theorem enterStopping_writerFits (cause : Cause) (code : FaultCode) (pos : Tags) {s : State} (h : WriterFits s)
    (hplays : s.run.state.atRest = false) : WriterFits (enterStopping cause code pos s) := by
  simp only [enterStopping, beginDrain]
  refine writerFits_produceEnd ?_ (by simp) ?_ ?_ fun hw => ?_
  · simpa [RingInRange, requestsClear, applierStop, walkerStop] using h.ring
  · simpa [requestsClear, applierStop, walkerStop] using h.noEnd (ne_stopping_of_plays hplays)
  · simpa [requestsClear, applierStop, walkerStop] using h.notAborted hplays
  · have hs : Writing s := (writing_of_discardedWalker
      (by simp [requestsClear, applierStop, walkerStop, discardWalkerGrant])).mp hw
    obtain ⟨r, rest, hhead, hlen⟩ := h.fits hs
    refine ⟨r, rest, by simpa [requestsClear, applierStop, walkerStop] using hhead, hlen.trans (le_of_eq ?_)⟩
    exact room_congr (by simp) (by simp) (by simp)

theorem enterPaused_writerFits (cause : Cause) (suspended : Option Cause) {s : State} (h : WriterFits s)
    (hplays : s.run.state.atRest = false) : WriterFits (enterPaused cause suspended s) :=
  h.playing hplays (by simp [enterPaused, SeqState.atRest]) (by simp) (by simp) (Writing.congr (by simp))

theorem enterWaiting_writerFits (cause : Cause) {s : State} (h : WriterFits s) (hplays : s.run.state.atRest = false) :
    WriterFits (enterWaiting cause s) :=
  h.playing hplays (by simp [enterWaiting, SeqState.atRest]) (by simp) (by simp) (Writing.congr (by simp))

/-- A state with the same log, run control and memory controller. -/
theorem WriterFits.same {s t : State} (h : WriterFits s) (hlog : t.log = s.log) (hrun : t.run = s.run)
    (hmem : t.mem = s.mem) : WriterFits t :=
  h.frame hlog (by rw [hrun]) (by rw [hrun]) (Writing.congr (by rw [hmem]))

theorem taking_writerFits {s : State} (h : WriterFits s) (hplays : s.run.state.atRest = false) :
    WriterFits (taking s) := by
  have hdrop : ∀ rest, WriterFits (dropHead rest s) := fun rest => h.same rfl rfl rfl
  unfold taking
  split
  next v t eop rest _ =>
    unfold takeVector
    split
    · exact enterPaused_writerFits _ none (h.frame rfl rfl rfl Iff.rfl) hplays
    · exact (hdrop rest).playing hplays (by simp [beginPeriod, SeqState.atRest]) (by simp) (by simp) (Writing.congr (by simp))
  next w t rest _ => exact enterWaiting_writerFits _ ((hdrop rest).same rfl rfl rfl) hplays
  · exact enterStopping_writerFits _ _ _ (hdrop _) hplays
  · exact enterStopping_writerFits _ _ _ (hdrop _) hplays
  · unfold takeEmpty
    split
    · exact enterWaiting_writerFits _ (h.frame rfl rfl rfl Iff.rfl) hplays
    · exact enterStopping_writerFits _ _ _ h hplays

theorem enterPriming_writerFits {s : State} (h : WriterFits s) (hplays : s.run.state.atRest = false) :
    WriterFits (enterPriming s) := by
  simp only [enterPriming]
  split
  · exact taking_writerFits (h.playing hplays rfl rfl rfl Iff.rfl) rfl
  · exact h.playing hplays rfl rfl rfl Iff.rfl

theorem endPeriod_writerFits (p : Period) {s : State} (h : WriterFits s) (hplays : s.run.state.atRest = false) :
    WriterFits (endPeriod p s) := by
  have hended : WriterFits { updatePassdone p s with app.period := none } := h.same (by simp) (by simp) (by simp)
  have hplays' : ({ updatePassdone p s with app.period := none } : State).run.state.atRest = false := by simpa using hplays
  simp only [endPeriod]
  split
  · exact enterStopping_writerFits _ _ _ hended hplays'
  · split
    · exact enterPaused_writerFits _ none (hended.frame rfl rfl rfl Iff.rfl) hplays'
    · exact taking_writerFits hended hplays'

theorem satisfyWait_writerFits (w : WaitProgress) {s : State} (h : WriterFits s) (hplays : s.run.state.atRest = false) :
    WriterFits (satisfyWait w s) := by
  simp only [satisfyWait]
  split
  · exact enterPriming_writerFits (h.same (by simp) (by simp) (by simp)) (by simpa using hplays)
  · exact enterPriming_writerFits (h.same rfl rfl rfl) hplays

theorem timeoutWait_writerFits (w : WaitProgress) {s : State} (h : WriterFits s) (hplays : s.run.state.atRest = false) :
    WriterFits (timeoutWait w s) := by
  have hproduced : WriterFits (produceRecord (timeoutRecord w s) s) := h.produce hplays (by simp [timeoutRecord])
  simp only [timeoutWait]
  split
  · exact enterPriming_writerFits (hproduced.same (by simp) (by simp) (by simp)) (by simpa using hplays)
  · exact enterStopping_writerFits _ _ _ (hproduced.same rfl rfl rfl) (by simpa using hplays)

theorem matchSample_writerFits (w : WaitProgress) (pads : Vector HW 4) {s : State} (h : WriterFits s)
    (hplays : s.run.state.atRest = false) : WriterFits (matchSample w pads s) := by
  simp only [matchSample]
  split
  · exact satisfyWait_writerFits _ (h.same rfl rfl rfl) hplays
  · exact h.same rfl rfl rfl

theorem endWaitPeriod_writerFits (w : WaitProgress) {s : State} (h : WriterFits s)
    (hplays : s.run.state.atRest = false) : WriterFits (endWaitPeriod w s) := by
  simp only [endWaitPeriod]
  split
  · exact h.same rfl rfl rfl
  · split
    · exact timeoutWait_writerFits _ (h.same rfl rfl rfl) hplays
    · exact h.same rfl rfl rfl

theorem strobe_writerFits (p : Period) (pads : Vector HW 4) {s : State} (h : WriterFits s)
    (hplays : s.run.state.atRest = false) : WriterFits (strobe p pads s) := by
  have hcounted : ∀ {u : State}, WriterFits u → WriterFits (countFailure p u) := fun hu =>
    hu.frame (by simp) (by simp) (by simp) (Writing.congr (by simp))
  simp only [strobe]
  generalize hstart : ({ s with app.period := some { p with strobed := true, tick := p.vec.timing.stb.toNat } } : State) = u
  have hu : WriterFits u := by
    subst hstart
    exact h.same rfl rfl rfl
  have huplays : u.run.state.atRest = false := by
    subst hstart
    exact hplays
  have hjudged : ∀ results, WriterFits (if failingPorts results = 0 then u
      else produceRecord (vectorRecord .fail p (failingPorts results) results pads) (countFailure p u)) := fun results => by
    split
    · exact hu
    · exact (hcounted hu).produce (by simpa using huplays) nofun
  split
  · refine (hjudged _).produce ?_ nofun
    split <;> simpa using huplays
  · exact hjudged _

theorem resolveNotReady_writerFits {s : State} (h : WriterFits s) (hplays : s.run.state.atRest = false) :
    WriterFits (resolveNotReady s) := by
  simp only [resolveNotReady]
  split
  · exact enterPriming_writerFits (h.frame rfl rfl rfl Iff.rfl) hplays
  · exact h.frame rfl rfl rfl Iff.rfl

theorem readyPending_writerFits (n : SegIdx) {s : State} (h : WriterFits s) (hrests : RestsWhenStopped s) :
    WriterFits (readyPending n s) := by
  unfold readyPending
  split
  next hstalled =>
    have hplays := hrests.plays_of_walker (by simp [hstalled.1])
    exact resolveNotReady_writerFits (h.same (by simp) (by simp) (by simp)) (by simpa using hplays)
  · exact h

/-! ## The drain -/

theorem drainComplete_idle (s : State) : runActive (drainComplete s) = false := by
  unfold drainComplete
  split <;> simp [runActive]

/-- The drain completes with an empty FIFO. -/
theorem drainComplete_writerFits {s : State} (hring : RingInRange s) (hfifo : s.log.fifo = []) (hgrant : ¬ Writing s) :
    WriterFits (drainComplete s) := by
  refine writerFits_of_idle ?_ (drainComplete_idle s) (by simpa using hfifo) fun hw => ?_
  · simpa [RingInRange] using hring
  · exact hgrant ((Writing.congr (by simp)).mp hw)

theorem writerGranted_iff {s : State} : writerGranted s = true ↔ Writing s := by
  simp [writerGranted, Writing]

/-- An ABORT in STOPPING keeps the record being written alone (R147). -/
theorem shortenDrain_writerFits {s : State} (h : WriterFits s) (hstopping : s.run.state = .stopping) :
    WriterFits (shortenDrain s) := by
  simp only [shortenDrain]
  cases hgranted : writerGranted s with
  | false =>
    have hnot : ¬ Writing s := fun hw => by simp [writerGranted_iff.mpr hw] at hgranted
    rw [if_neg Bool.false_ne_true, if_pos rfl]
    refine drainComplete_writerFits ?_ (by simp) fun hw => hnot ((Writing.congr (by simp)).mp hw)
    simpa [RingInRange] using h.ring
  | true =>
    have hw := writerGranted_iff.mp hgranted
    obtain ⟨r, rest, hhead, hlen⟩ := h.fits hw
    rw [if_pos rfl, hhead, if_neg (by simp)]
    refine ⟨?_, fun r' hr' _ => ⟨?_, ?_⟩, fun hidle => ?_, fun hplays => ?_, fun _ _ => ⟨?_, ?_⟩, fun _ => ⟨r, [], ?_, ?_⟩⟩
    · simpa [RingInRange] using h.ring
    · simpa using hstopping
    · simp at hr'
      simp [hr']
    · simp [runActive, hstopping] at hidle
    · simp [hstopping, SeqState.atRest] at hplays
    · exact (Writing.congr (by simp)).mpr hw
    · simp
    · simp
    · exact hlen.trans (le_of_eq (room_congr (by simp) (by simp) (by simp)).symm)

/-- The write pointer stays in the ring as it moves round it. -/
theorem wp_in_ring {s : State} (hring : RingInRange s) (n : Nat) :
    (BitVec.ofNat 24 ((s.log.wp.toNat + n) % s.log.size.toNat)).toNat < s.log.size.toNat := by
  obtain ⟨hlow, _, _, _⟩ := hring
  rw [BitVec.toNat_ofNat]
  exact (Nat.mod_le _ _).trans_lt (Nat.mod_lt _ (by omega))

/-- The drain after the publication of the head record, in the state `u` that the publication has left. -/
theorem drainAfterPublication_writerFits {r : LogRecord} {rest : List LogRecord} {s u : State} (h : WriterFits s)
    (hfifo : s.log.fifo = r :: rest) (hring : RingInRange u) (hrest : u.log.fifo = rest)
    (hstate : u.run.state = s.run.state) (haborted : u.run.drainAborted = s.run.drainAborted) (hfree : ¬ Writing u) :
    WriterFits (drainAfterPublication r u) := by
  have hactive : runActive s = true := by
    by_contra hidle
    simp [h.idleEmpty (by simpa using hidle)] at hfifo
  have hnoEnd : ∀ r' ∈ rest, r'.kind ≠ .endRun := fun r' hr' hend => by
    obtain ⟨_, halone⟩ := h.endAlone r' (by rw [hfifo]; exact List.mem_cons_of_mem r hr') hend
    rw [hfifo] at halone
    simp only [List.cons.injEq] at halone
    simp [halone.2] at hr'
  unfold drainAfterPublication
  split
  next hnot =>
    rw [hstate] at hnot
    refine ⟨hring, fun r' hr' hend => absurd hend (hnoEnd r' (hrest ▸ hr')), fun hidle => ?_, fun hplays => ?_,
      fun hstopping => absurd (hstate ▸ hstopping) hnot, fun hw => absurd hw hfree⟩
    · rw [runActive_congr hstate, hactive] at hidle
      cases hidle
    · rw [hstate] at hplays
      exact haborted.trans (h.notAborted hplays)
  next hstopping =>
    rw [not_not, hstate] at hstopping
    split
    next hlast =>
      have hnil : rest = [] := by
        obtain hshort | hend := Bool.or_eq_true_iff.mp hlast
        · obtain ⟨_, hone⟩ := h.shortened hstopping (haborted ▸ hshort)
          simpa [hfifo] using hone
        · obtain ⟨_, halone⟩ := h.endAlone r (by simp [hfifo]) (by simpa using hend)
          simpa [hfifo] using halone
      exact drainComplete_writerFits hring (hrest.trans hnil) hfree
    next hmore =>
      have hnotAborted : u.run.drainAborted = false := by
        simp only [Bool.or_eq_true, not_or, Bool.not_eq_true] at hmore
        exact hmore.1
      exact writerFits_produceEnd hring (hstate.trans hstopping) (hrest ▸ hnoEnd) hnotAborted fun hw => absurd hw hfree

/-- A publication frees the port and shows the ring's room again (R140, R141, R146, R147). -/
theorem publish_writerFits {r : LogRecord} {rest : List LogRecord} {s : State} (h : WriterFits s)
    (hfifo : s.log.fifo = r :: rest) : WriterFits (publish r rest (freePort s)) := by
  simp only [publish]
  refine drainAfterPublication_writerFits h hfifo ?_ (by simp) (by simp) (by simp) (by simp [Writing])
  obtain ⟨hlow, hhigh, _, hrp⟩ := h.ring
  simpa [RingInRange, hlow, hhigh, hrp] using wp_in_ring h.ring r.length

/-! ## The arbiter -/

theorem decideGrant_writer {s : State} {w : Option WinUnit} {po : Nat} (h : decideGrant s w po = some .writer) :
    writerRequest s = true := by
  have hwindow : w.map Grant.window ≠ some .writer := by cases w <;> simp
  unfold decideGrant at h
  split at h
  · cases h
  · split at h
    · exact absurd h hwindow
    · split at h
      · cases h
      · split at h
        next hrequest => exact (Bool.and_eq_true_iff.mp hrequest).1
        · split at h
          · cases h
          · split at h
            next hrequest => exact hrequest
            · split at h
              · exact absurd h hwindow
              · split at h <;> cases h

/-- The writer requests the port for a head record that the ring has room for (R139). -/
theorem fits_of_writerRequest {s : State} (h : writerRequest s = true) :
    ∃ r rest, s.log.fifo = r :: rest ∧ r.length ≤ room s := by
  simp only [writerRequest, beq_iff_eq, writerState] at h
  split at h
  · cases h
  next r rest hfifo =>
    split at h
    · cases h
    · split at h
      next hroom => exact ⟨r, rest, hfifo, hroom⟩
      · cases h

theorem arbitrate_writerFits {s : State} (h : WriterFits s) : WriterFits (arbitrate s) := by
  by_cases hbusy : s.mem.grant.isSome = true ∨ s.mem.ready = false
  · refine h.frame (by simp) (by simp) (by simp) (Writing.congr ?_)
    obtain hbusy | hinit := hbusy
    · exact arbitrate_busy hbusy
    · exact arbitrate_init hinit
  · obtain ⟨hfree, hready⟩ := not_or.mp hbusy
    have hnone : s.mem.grant = none := by simpa using hfree
    have hgrant := arbitrate_free (by simpa using hready) hnone
    have hroom : room (arbitrate s) = room s := room_congr (by simp) (by simp) (by simp)
    refine ⟨?_, ?_, ?_, ?_, fun hstopping haborted => ?_, fun hw => ?_⟩
    · simpa [RingInRange] using h.ring
    · simpa [EndRecordAlone] using h.endAlone
    · simpa [runActive] using h.idleEmpty
    · simpa using h.notAborted
    · obtain ⟨hw, _⟩ := h.shortened (by simpa using hstopping) (by simpa using haborted)
      simp [Writing, hnone] at hw
    · rw [hroom]
      simpa using fits_of_writerRequest (decideGrant_writer (hgrant.symm.trans hw))

/-! ## Every row -/

theorem logrp_writerFits {s : State} {v : Word} (h : WriterFits s) (hgood : logrpBad s v.toNat = false) :
    WriterFits { s with log.rp := v.setWidth 24 } := by
  obtain ⟨hlow, hhigh, hwp, _⟩ := h.ring
  have hv : v.toNat < s.log.size.toNat := by
    simp only [logrpBad, Bool.or_eq_false_iff, decide_eq_false_iff_not, Nat.not_le] at hgood
    exact hgood.1
  have hrp : (v.setWidth 24).toNat = v.toNat := by
    rw [BitVec.toNat_setWidth, Nat.mod_eq_of_lt]
    omega
  refine ⟨⟨hlow, hhigh, hwp, hrp ▸ hv⟩, h.endAlone, h.idleEmpty, h.notAborted, h.shortened, fun hw => ?_⟩
  obtain ⟨r, rest, hhead, hlen⟩ := h.fits hw
  exact ⟨r, rest, hhead, hlen.trans (room_le_of_advance h.ring rfl rfl hrp hgood)⟩

theorem ringInRange_of_por {s : State} (hlog : s.log = Log.por) : RingInRange s := by
  unfold RingInRange
  rw [hlog]
  decide

theorem orphanGrant_writer (g : Option Grant) : orphanGrant g = some .writer ↔ g = some .writer := by
  unfold orphanGrant
  split <;> simp

/-- A SOFT_RESET takes the port from the writer (R148). -/
theorem endWriterGrant_notWriting (n : Nat) (s : State) : ¬ Writing (endWriterGrant n s) := by
  unfold endWriterGrant
  split
  · simp [Writing]
  next hnot => exact fun hw => hnot (writerGranted_iff.mpr hw)

theorem idle_of_startRefusal_none {isArm : Bool} {s : State} (h : startRefusal isArm s = none) :
    s.run.state = .idle := by
  unfold startRefusal at h
  split at h
  · cases h
  next hstate => exact not_not.mp hstate

/-- The run starts with an empty FIFO. -/
theorem WriterFits.started {s t : State} {isArm : Bool} (h : WriterFits s) (hchecks : startRefusal isArm s = none)
    (hring : RingInRange s → RingInRange t) (hfifo : t.log.fifo = []) (haborted : t.run.drainAborted = false)
    (hgrant : t.mem.grant = s.mem.grant) : WriterFits t := by
  have hempty := h.idleEmpty (by simp [runActive, idle_of_startRefusal_none hchecks])
  exact writerFits_of_empty (hring h.ring) hfifo haborted fun hw => h.notWriting hempty ((Writing.congr hgrant).mp hw)

theorem postWrite_grant (v : HW) (s : State) : (postWrite v s).mem.grant = discardedFetch s.mem.grant := rfl

theorem takeWrite_writing (v : HW) (s : State) : Writing (takeWrite v s) ↔ Writing s := by
  unfold takeWrite accessUnless
  split
  · exact Writing.congr (by simp)
  · exact writing_of_discardedFetch (postWrite_grant v s)

/-- An access that goes on takes no grant from the writer, and gives it none. -/
theorem resumeAccess_writing (s : State) : Writing (resumeAccess s) ↔ Writing s := by
  obtain hsame | hfetch | ⟨v, htaken⟩ := resumeAccess_cases s
  · rw [hsame]
  · rw [hfetch]
    exact Writing.congr (by simp)
  · rw [htaken, takeWrite_writing]
    exact Writing.congr rfl

theorem drainNext_notWriting (live : Bool) (s : State) (ws : List PostedWrite) : ¬ Writing (drainNext live s ws) := by
  have hleft : ∀ ws, drainGrant live ws ≠ some .writer := fun ws => by cases ws <;> simp [drainGrant]
  cases ws with
  | nil => simp [drainNext, Writing]
  | cons w ws =>
    simp only [drainNext, drainWrite]
    split
    · rw [resumeAccess_writing]
      exact hleft ws
    · exact hleft ws

theorem uncountGrant_writer (g : Option Grant) : uncountGrant g = some .writer ↔ g = some .writer := by
  unfold uncountGrant
  split <;> simp

theorem startMemop_writing (op : MemOp) (s : State) : Writing (startMemop op s) ↔ Writing s :=
  (uncountGrant_writer _).trans (discardedFetch_writer s.mem.grant)

theorem endFetch_grant (a n : Nat) (live : Bool) (s : State) : (endFetch a n live s).mem.grant = none := by
  simp only [endFetch]
  (repeat' split) <;> simp

theorem atResetN_grant (m : MemCtl) : m.atResetN.grant ≠ some .writer := by
  simp only [MemCtl.atResetN]
  split <;> simp

theorem RowEffect.keeps_writerFits {s t : State} (heffect : RowEffect s t) (hrests : RestsWhenStopped s)
    (h : WriterFits s) : WriterFits t := by
  cases heffect with
  | quiet _ hq => exact h.frame hq.log hq.state hq.drainAborted (Writing.congr hq.grant)
  | discard _ hq =>
    refine h.frame (by simp [hq.log]) (by simp [hq.state]) (by simp [hq.drainAborted])
      (writing_of_discardedFetch (hq.grant.trans rfl))
  | windowFreed u hgrant hq =>
    refine h.frame (by simp [hq.log]) (by simp [hq.state]) (by simp [hq.drainAborted]) (writing_of_other ?_ ?_)
    · simp [hgrant]
    · simp [hq.grant]
  | windowWrote u hgrant _ _ hq =>
    refine h.frame (by simp [hq.log]) (by simp [hq.state]) (by simp [hq.drainAborted]) (writing_of_other ?_ ?_)
    · simp [hgrant]
    · simp [hq.grant]
  | start _ hchecks =>
    exact h.started hchecks (fun hring => by simpa [RingInRange] using hring) rfl rfl (by simp)
  | arm _ hchecks => exact h.started hchecks (fun hring => by simpa [RingInRange] using hring) rfl rfl (by simp)
  | pause _ hstate suspended =>
    exact enterPaused_writerFits _ _ h (by obtain hstate | hstate := hstate <;> rw [hstate] <;> rfl)
  | rewait _ hstate =>
    exact enterWaiting_writerFits _ (h.same (by simp) (by simp) (by simp)) (by simp [hstate, SeqState.atRest])
  | restall _ hstate => exact enterWaiting_writerFits _ h (by rw [hstate]; rfl)
  | reprime _ hstate => exact enterPriming_writerFits h (by rw [hstate]; rfl)
  | abort _ hplays => exact enterStopping_writerFits _ _ _ h hplays
  | shorten _ hstopping _ => exact shortenDrain_writerFits h hstopping
  | clear _ hstate =>
    have hempty := h.idleEmpty (by obtain hstate | hstate := hstate <;> simp [runActive, hstate])
    exact writerFits_of_idle h.ring rfl hempty (h.notWriting hempty)
  | ready _ n => exact readyPending_writerFits n h hrests
  | ringMoved _ hidle base size hsize =>
    refine writerFits_of_idle ?_ hidle (h.idleEmpty hidle) (h.notWriting (h.idleEmpty hidle))
    obtain ⟨hlow, hhigh⟩ : 64 ≤ size.toNat ∧ size.toNat ≤ 16777216 := by
      obtain rfl | hsize := hsize
      · exact ⟨h.ring.1, h.ring.2.1⟩
      · exact hsize
    exact ⟨hlow, hhigh, Nat.lt_of_lt_of_le (by simp) hlow, Nat.lt_of_lt_of_le (by simp) hlow⟩
  | loglevel => exact ⟨h.ring, h.endAlone, h.idleEmpty, h.notAborted, h.shortened, h.fits⟩
  | logrp _ v hgood => exact logrp_writerFits h hgood
  | memop _ op => exact h.frame (by simp) (by simp) (by simp) (startMemop_writing op s)
  | softReset _ n =>
    refine writerFits_of_idle (by simpa [RingInRange] using h.ring) rfl rfl fun hw => ?_
    have hended := (writing_of_discardedWalker (s := softResetWindow (endWriterGrant n s)) rfl).mp hw
    exact endWriterGrant_notWriting n s ((orphanGrant_writer _).mp hended)
  | serveRead => exact h.same (by simp) (by simp) (by simp)
  | fetchForRead => exact h.same (by simp) (by simp) (by simp)
  | postWrite => exact h.frame (by simp) (by simp) (by simp) (writing_of_discardedFetch rfl)
  | fetched _ hgrant c =>
    exact h.frame (by simp) (by simp) (by simp) (writing_of_other (by simp [hgrant]) (by simp))
  | unfetched live hgrant =>
    exact h.frame (by simp) (by simp) (by simp) (writing_of_other (by simp [hgrant]) (by simp))
  | taking hstate =>
    exact taking_writerFits h (by obtain hstate | hstate := hstate <;> rw [hstate] <;> rfl)
  | endPeriod p hperiod => exact endPeriod_writerFits p h (hrests.plays_of_period hperiod)
  | strobe p hperiod pads => exact strobe_writerFits p pads h (hrests.plays_of_period hperiod)
  | matchSample hstate w _ pads => exact matchSample_writerFits w pads h (by rw [hstate]; rfl)
  | endWaitPeriod hstate w => exact endWaitPeriod_writerFits w h (by rw [hstate]; rfl)
  | satisfyWait hstate w => exact satisfyWait_writerFits w h (by rw [hstate]; rfl)
  | starved hstate => exact enterStopping_writerFits _ _ _ h (by rw [hstate]; rfl)
  | published _ r rest hfifo => exact publish_writerFits h hfifo
  | unpublished hgrant hfifo => exact absurd hgrant (h.notWriting hfifo)
  | refreshed hgrant =>
    exact h.frame (by simp) (by simp) (by simp) (writing_of_other (by simp [hgrant]) (by simp))
  | drained ws live hgrant =>
    exact h.frame (by simp) (by simp) (by simp) (writing_of_other (by simp [hgrant]) (drainNext_notWriting live s ws))
  | endFetch a n live hgrant =>
    exact h.frame (by simp) (by simp) (by simp) (writing_of_other (by simp [hgrant]) (by simp [endFetch_grant]))
  | resetFalls => exact writerFits_of_idle (ringInRange_of_por rfl) rfl rfl (atResetN_grant s.mem)
  | _ => exact h.frame (by simp) (by simp) (by simp) (Writing.congr (by simp))

/-- Settles O11: the arbiter grants the writer only a head record that the ring has room for, the room only grows until the
record's publication, and the FIFO keeps its head until then. -/
theorem stepKeepsRoomForTheRecordWritten : Obligations.StepKeepsRoomForTheRecordWritten := by
  have hkeeps : ∀ s t : State, RestsWhenStopped s ∧ WriterFits s → step s = .next t →
      RestsWhenStopped t ∧ WriterFits t := by
    refine step_keeps (fun s rest h => ⟨h.1, h.2.same rfl rfl rfl⟩) (fun s h => ⟨tick_rests h.1, ?tick⟩)
      (fun s h => ⟨?arbitrate, arbitrate_writerFits h.2⟩)
      (fun s t heffect h => ⟨heffect.keeps_restsWhenStopped h.1, heffect.keeps_writerFits h.1 h.2⟩) fun s msize _ => ?por
    case tick => exact h.2.frame (by simp) (by simp) (by simp) (Writing.congr (by simp))
    case arbitrate => exact h.1.frame (by simp) (by simp) (by simp) (by simp)
    case por =>
      exact ⟨AtRest.restsWhenStopped ⟨rfl, rfl, rfl, rfl, rfl⟩, writerFits_of_idle (ringInRange_of_por rfl) rfl rfl nofun⟩
  intro s t h hstep
  exact writerHasRoom_iff.mpr (hkeeps s t (writerHasRoom_iff.mp h) hstep)

end Sys2Proof.Machine
end

section
/-! RESET_N low (R16, R23, R48, R52, R80, R127, R149, R158, R173, R190, R196): every block holds its reset values, and no row
but the refresh timer, a refresh grant and the pin itself has an effect. -/

namespace Sys2Proof.Machine

/-- What the memory controller holds while RESET_N is low: the fields that take their reset values, and a port that is free
or refreshing. -/
structure MemAtReset (m : MemCtl) : Prop where
  zones : m.zones = Vector.replicate 8 ⟨0, 0, .vector, false, false⟩
  zonesel : m.zonesel = 0
  refint : m.refint = 1560
  passover : m.passover = 0
  grant : m.grant = none ∨ m.grant = some .refresh

theorem MemAtReset.eq {m : MemCtl} (h : MemAtReset m) :
    m = { MemCtl.por m.msize with
      ready := m.ready, initTicks := m.initTicks, refTimer := m.refTimer, owed := m.owed
      refmiss := m.refmiss, grant := m.grant } := by
  obtain ⟨ready, msize, initTicks, zones, zonesel, refint, refTimer, owed, refmiss, passover, grant⟩ := m
  obtain ⟨rfl, rfl, rfl, rfl, _⟩ := h
  rfl

/-- What every block holds while RESET_N is low. -/
structure InReset (s : State) : Prop where
  ports : s.ports = Ports.por
  tsets : s.tsets = TimingSets.por
  seg : s.seg = SegTable.por
  walker : s.walker = Walker.stoppedState
  queue : s.queue = []
  app : s.app = Applier.por
  run : s.run = RunControl.por
  log : s.log = Log.por
  trig : s.trig = Trigger.por
  ev : s.ev = Events.por
  win : s.win = { Window.por with mopLast := s.win.mopLast, mopCount := s.win.mopCount }
  mem : MemAtReset s.mem

theorem resetHolds_iff {s : State} : ResetHolds s ↔ (s.resetLow = true → InReset s) := by
  constructor
  · intro h low
    obtain ⟨hports, htsets, hseg, hwalker, hqueue, happ, hrun, hlog, htrig, hev, hwin, hmem, hgrant⟩ := h low
    refine ⟨hports, htsets, hseg, hwalker, hqueue, happ, hrun, hlog, htrig, hev, hwin, ?_, ?_, ?_, ?_, hgrant⟩ <;>
      rw [hmem] <;> rfl
  · intro h low
    obtain ⟨hports, htsets, hseg, hwalker, hqueue, happ, hrun, hlog, htrig, hev, hwin, hmem⟩ := h low
    exact ⟨hports, htsets, hseg, hwalker, hqueue, happ, hrun, hlog, htrig, hev, hwin, hmem.eq, hmem.grant⟩

/-- A state that differs in the memory controller and pattern memory alone. -/
theorem InReset.withMem {s t : State} (h : InReset s) (hports : t.ports = s.ports) (htsets : t.tsets = s.tsets)
    (hseg : t.seg = s.seg) (hwalker : t.walker = s.walker) (hqueue : t.queue = s.queue) (happ : t.app = s.app)
    (hrun : t.run = s.run) (hlog : t.log = s.log) (htrig : t.trig = s.trig) (hev : t.ev = s.ev) (hwin : t.win = s.win)
    (hmem : MemAtReset t.mem) : InReset t where
  ports := hports.trans h.ports
  tsets := htsets.trans h.tsets
  seg := hseg.trans h.seg
  walker := hwalker.trans h.walker
  queue := hqueue.trans h.queue
  app := happ.trans h.app
  run := hrun.trans h.run
  log := hlog.trans h.log
  trig := htrig.trans h.trig
  ev := hev.trans h.ev
  win := hwin ▸ h.win
  mem := hmem

/-- A memory controller that keeps its zones, REFINT and passed-over count, and the port's use. -/
theorem MemAtReset.frame {m n : MemCtl} (h : MemAtReset m) (hzones : n.zones = m.zones) (hzonesel : n.zonesel = m.zonesel)
    (hrefint : n.refint = m.refint) (hpassover : n.passover = m.passover)
    (hgrant : n.grant = m.grant ∨ n.grant = none) : MemAtReset n where
  zones := hzones.trans h.zones
  zonesel := hzonesel.trans h.zonesel
  refint := hrefint.trans h.refint
  passover := hpassover.trans h.passover
  grant := by
    obtain hsame | hnone := hgrant
    · rw [hsame]
      exact h.grant
    · exact .inl hnone

/-! ## What does not happen in reset -/

theorem InReset.state {s : State} (h : InReset s) : s.run.state = .idle := by rw [h.run]; rfl

theorem InReset.not_walking {s : State} (h : InReset s) : s.walker.st ≠ .walking := by rw [h.walker]; exact nofun

theorem InReset.no_period {s : State} (h : InReset s) : s.app.period = none := by rw [h.app]; rfl

/-- No unit but a refresh holds the port. -/
theorem InReset.not_granted {s : State} (h : InReset s) {g : Grant} (hg : g ≠ .refresh) : s.mem.grant ≠ some g := by
  obtain hnone | hrefresh := h.mem.grant
  · simp [hnone]
  · simpa [hrefresh] using hg.symm

/-- A tick moves the timers of the memory controller alone. -/
theorem tick_inReset {s : State} (h : InReset s) : InReset (tick s) := by
  have hmem : MemAtReset (tick s).mem :=
    h.mem.frame (by simp) (by simp) (by simp) (by simp) (.inl (by simp))
  have happ : (tick s).app = s.app := by
    unfold tick
    split
    · rfl
    · simp [tickPeriod, tickWait, waitIs, h.app, Applier.por]
  have hrun : (tick s).run = s.run := by
    unfold tick
    split
    · rfl
    · simp [tickStarve, h.state]
  exact h.withMem (by simp) (by simp) (by simp) (by simp) (by simp) happ hrun (by simp) (by simp) (by simp) (by simp) hmem

theorem InReset.no_windowWork {s : State} (h : InReset s) : windowWork s = none := by
  unfold windowWork
  rw [h.win]
  rfl

theorem InReset.no_walkerRequest {s : State} (h : InReset s) : walkerRequest s = false := by
  simp [walkerRequest, h.not_walking]

theorem InReset.no_writerRequest {s : State} (h : InReset s) : writerRequest s = false := by
  simp [writerRequest, writerState, h.log, Log.por]

/-- The arbiter has only refreshes to grant. -/
theorem arbitrate_inReset {s : State} (h : InReset s) : InReset (arbitrate s) := by
  refine h.withMem (by simp) (by simp) (by simp) (by simp) (by simp) (by simp) (by simp) (by simp) (by simp) (by simp)
    (by simp) ?_
  unfold arbitrate
  rw [h.no_windowWork]
  simp only [passoverNow, Option.isSome_none, if_neg Bool.false_ne_true]
  split
  · exact h.mem.frame rfl rfl rfl h.mem.passover.symm (.inl rfl)
  · have hdecision : decideGrant s none 0 = none ∨ decideGrant s none 0 = some .refresh := by
      simp only [decideGrant, h.no_walkerRequest, h.no_writerRequest]
      (repeat' split) <;> simp_all
    refine ⟨h.mem.zones, h.mem.zonesel, h.mem.refint, ?_, hdecision⟩
    obtain hnone | hrefresh := hdecision
    · simp only [hnone, passoverAfter]
    · simp only [hrefresh, passoverAfter]

/-! ## Every row -/

/-- The part at the fall of RESET_N (R173, R190). -/
theorem resetN_inReset (n : Nat) (s : State) : InReset (resetN n s) := by
  have hgrant : s.mem.atResetN.grant = none ∨ s.mem.atResetN.grant = some .refresh := by
    simp only [MemCtl.atResetN]
    split <;> simp
  refine ⟨rfl, rfl, rfl, rfl, rfl, rfl, rfl, rfl, rfl, rfl, ?_, rfl, rfl, rfl, rfl, hgrant⟩
  change s.win.atResetN = { Window.por with mopLast := s.win.atResetN.mopLast, mopCount := s.win.atResetN.mopCount }
  unfold Window.atResetN
  split <;> rfl

theorem RowEffect.keeps_inReset {s t : State} (heffect : RowEffect s t) (low : s.resetLow = true) (h : InReset s)
    (ht : t.resetLow = true) : InReset t := by
  have hhost : s.resetLow ≠ false := by simp [low]
  cases heffect with
  | quiet high | start high | arm high | pause high | rewait high | restall high | reprime high | abort high
  | shorten high | clear high | ready high | ringMoved high | loglevel high | logrp high | memop high | discard high
  | softReset high | portcfg high | zone high | serveRead high | fetchForRead high | postWrite high | initialized high
  | resetFalls high => exact absurd high hhost
  | arrive hst | pushWait hst | fetchZone hst | fetched hst | leave hst | leaveAlt hst => exact absurd hst h.not_walking
  | unfetched live hgrant | published hgrant | unpublished hgrant | drained ws live hgrant | endFetch a n live hgrant
  | windowFreed u hgrant | windowWrote u hgrant => exact absurd hgrant (h.not_granted nofun)
  | taking hstate =>
    rw [h.state] at hstate
    obtain hstate | hstate := hstate <;> cases hstate
  | endPeriod p hperiod | driveEdge p hperiod | strobe p hperiod =>
    rw [h.no_period] at hperiod
    cases hperiod
  | matchSample hstate | endWaitPeriod hstate | satisfyWait hstate | starved hstate =>
    rw [h.state] at hstate
    cases hstate
  | owe =>
    exact h.withMem rfl rfl rfl rfl rfl rfl rfl rfl rfl rfl rfl (h.mem.frame rfl rfl rfl rfl (.inl rfl))
  | miss =>
    have hev : (missRefresh { s with mem.refTimer := 0 }).ev = s.ev := by simp [missRefresh, raise, low]
    exact h.withMem (by simp) (by simp) (by simp) (by simp) (by simp) (by simp) (by simp) (by simp) (by simp) hev (by simp)
      (h.mem.frame (by simp) (by simp) (by simp) (by simp) (.inl (by simp)))
  | refreshed =>
    exact h.withMem rfl rfl rfl rfl rfl rfl rfl rfl rfl rfl rfl (h.mem.frame rfl rfl rfl rfl (.inr rfl))
  | resetRises => cases ht

/-- Every row but the fall of the pin leaves RESET_N as it is or raises it. -/
theorem RowEffect.keeps_resetHolds {s t : State} (heffect : RowEffect s t) (h : ResetHolds s) : ResetHolds t := by
  refine resetHolds_iff.mpr fun ht => ?_
  cases hlow : s.resetLow with
  | true => exact heffect.keeps_inReset hlow (resetHolds_iff.mp h hlow) ht
  | false =>
    have hkept : ∀ {u : State}, u.resetLow = s.resetLow → u.resetLow = true → InReset u := fun hsame hu => by
      rw [hsame, hlow] at hu
      cases hu
    cases heffect with
    | quiet _ hq => exact hkept hq.resetLow ht
    | discard _ hq => exact hkept (by simpa using hq.resetLow) ht
    | windowFreed _ _ hq => exact hkept (by simpa using hq.resetLow) ht
    | windowWrote _ _ _ _ hq => exact hkept (by simpa using hq.resetLow) ht
    | resetFalls _ n => exact resetN_inReset n s
    | resetRises => cases ht
    | _ => exact hkept (by simp) ht

/-- Settles O12: while RESET_N is low no host access is taken, and nothing plays, waits or holds the port but a refresh. -/
theorem stepKeepsResetWhileLow : Obligations.StepKeepsResetWhileLow := by
  refine step_keeps (fun s rest h => h) (fun s h => ?tick) (fun s h => ?arbitrate)
    (fun s t heffect h => heffect.keeps_resetHolds h) fun s msize h => ?por
  case tick =>
    refine resetHolds_iff.mpr fun low => tick_inReset (resetHolds_iff.mp h ?_)
    simpa using low
  case arbitrate =>
    refine resetHolds_iff.mpr fun low => arbitrate_inReset (resetHolds_iff.mp h ?_)
    simpa using low
  case por =>
    exact resetHolds_iff.mpr fun _ => ⟨rfl, rfl, rfl, rfl, rfl, rfl, rfl, rfl, rfl, rfl, rfl, rfl, rfl, rfl, rfl, .inl rfl⟩

end Sys2Proof.Machine
end

section
/-! Pattern memory and the bounded counts (R55, R129, R166, R170, R183, R185): a step keeps the known contents of pattern memory
in canonical form, and every count and buffer within its bound. -/

namespace Sys2Proof.Machine

/-! ## Pattern memory -/

theorem MemoryCanonical.frame {s t : State} (h : MemoryCanonical s) (hcells : t.dram.cells = s.dram.cells) :
    MemoryCanonical t := by
  unfold MemoryCanonical
  rw [hcells]
  exact h

/-- A grant cut short writes some of its halfwords. -/
theorem partialTransfer_wf {s : State} (h : s.dram.cells.wf = true) (n : Nat) :
    (partialTransfer n s).dram.cells.wf = true := by
  unfold partialTransfer
  split
  · split
    · exact writeRing_wf s h 0 _
    · exact h
  · exact writePosted_wf h _
  · exact writeHalves_wf h _ _
  · exact writeHalves_wf h _ _
  · split
    · exact writeHalves_wf (s := (readHalf _ s).2) (by simpa using h) _ _
    · exact h
  · exact h

theorem endWriterGrant_wf {s : State} (h : s.dram.cells.wf = true) (n : Nat) :
    (endWriterGrant n s).dram.cells.wf = true := by
  unfold endWriterGrant
  split
  · exact partialTransfer_wf h n
  · exact h

theorem publish_wf {s : State} (h : s.dram.cells.wf = true) (r : LogRecord) (rest : List LogRecord) :
    (publish r rest s).dram.cells.wf = true := by
  have hkept : ∀ u : State, (drainAfterPublication r u).dram = u.dram := fun u => by
    unfold drainAfterPublication
    (repeat' split) <;> simp
  simp only [publish, hkept, raiseIf_frame]
  exact writeRing_wf s h 0 _

theorem drainNext_wf {s : State} (h : s.dram.cells.wf = true) (live : Bool) (ws : List PostedWrite) :
    (drainNext live s ws).dram.cells.wf = true := by
  cases ws with
  | nil => exact h
  | cons w ws =>
    have hwritten := writePosted_wf (s := { s with mem.grant := drainGrant live ws }) h [w]
    simp only [drainNext, drainWrite]
    split
    · simpa using hwritten
    · exact hwritten

theorem RowEffect.keeps_memoryCanonical {s t : State} (heffect : RowEffect s t) (h : MemoryCanonical s) :
    MemoryCanonical t := by
  cases heffect with
  | quiet _ hq => exact h.frame (by rw [hq.dram])
  | discard _ hq => exact h.frame (by simp [hq.dram])
  | windowFreed _ _ hq => exact h.frame (by simp [hq.dram])
  | windowWrote _ _ a vs hq =>
    have hwritten : MemoryCanonical (writeHalves a vs (freePort s)) := writeHalves_wf (s := freePort s) h a vs
    exact hwritten.frame (by rw [hq.dram])
  | softReset _ n =>
    have hended := endWriterGrant_wf h n
    simpa [MemoryCanonical] using hended
  | published _ r rest => exact publish_wf (s := freePort s) h r rest
  | miss => simp [MemoryCanonical, missRefresh, Memory.wf]
  | drained ws live => exact drainNext_wf h live ws
  | resetFalls _ n => exact partialTransfer_wf h n
  | _ => exact h.frame (by simp)

theorem stepKeepsMemoryCanonical : Claims.StepKeepsMemoryCanonical := by
  refine step_keeps (fun s rest h => h) (fun s h => h.frame (by simp)) (fun s h => h.frame (by simp))
    (fun s t heffect h => heffect.keeps_memoryCanonical h) fun s msize _ => rfl

/-! ## Refreshes owed and grants passed over -/

/-- At most 8 refreshes are owed (R166). -/
def OwedInRange (s : State) : Prop := s.mem.owed ≤ 8

theorem OwedInRange.frame {s t : State} (h : OwedInRange s) (howed : t.mem.owed = s.mem.owed) : OwedInRange t :=
  howed.le.trans h

theorem RowEffect.keeps_owedInRange {s t : State} (heffect : RowEffect s t) (h : OwedInRange s) : OwedInRange t := by
  cases heffect with
  | quiet _ hq => exact h.frame hq.owed
  | discard _ hq => exact h.frame (by simp [hq.owed])
  | windowFreed _ _ hq => exact h.frame (by simp [hq.owed])
  | windowWrote _ _ _ _ hq => exact h.frame (by simp [hq.owed])
  | owe below => exact below
  | refreshed => exact (Nat.sub_le _ _).trans h
  | initialized => simp [OwedInRange]
  | resetFalls => exact h.frame rfl
  | _ => exact h.frame (by simp)

/-- At most 16 grants have passed the window over (R170). -/
def PassoverInRange (s : State) : Prop := s.mem.passover ≤ 16

theorem PassoverInRange.frame {s t : State} (h : PassoverInRange s) (hpassover : t.mem.passover = s.mem.passover) :
    PassoverInRange t := hpassover.le.trans h

theorem passoverAfter_le {w : Option WinUnit} {po : Nat} (hpo : po ≤ 16) (g : Option Grant) :
    passoverAfter w po g ≤ 16 := by
  have hraised : (if w.isSome && decide (po < 16) then po + 1 else po) ≤ 16 := by
    split
    next hbelow =>
      simp only [Bool.and_eq_true, decide_eq_true_eq] at hbelow
      exact hbelow.2
    · exact hpo
  cases g with
  | none => exact hpo
  | some g =>
    cases g with
    | window => exact Nat.zero_le _
    | walker | writer => exact hraised
    | refresh => exact hpo

theorem arbitrate_passoverInRange {s : State} (h : PassoverInRange s) : PassoverInRange (arbitrate s) := by
  have hnow : passoverNow s (windowWork s) ≤ 16 := by
    unfold passoverNow
    split
    · exact h
    · exact Nat.zero_le _
  unfold arbitrate
  simp only
  split
  · exact hnow
  · exact passoverAfter_le hnow _

theorem RowEffect.keeps_passoverInRange {s t : State} (heffect : RowEffect s t) (h : PassoverInRange s) :
    PassoverInRange t := by
  cases heffect with
  | quiet _ hq => exact h.frame hq.passover
  | discard _ hq => exact h.frame (by simp [hq.passover])
  | windowFreed _ _ hq => exact h.frame (by simp [hq.passover])
  | windowWrote _ _ _ _ hq => exact h.frame (by simp [hq.passover])
  | softReset => simp [PassoverInRange, softResetWindow]
  | resetFalls => exact Nat.zero_le 16
  | _ => exact h.frame (by simp)

/-! ## The fail FIFO and the loop stack -/

/-- At most 16 records in the fail FIFO (R129) and 4 loops begun (R55). -/
structure RunCountsInRange (s : State) : Prop where
  fifo : s.log.fifo.length ≤ 16
  stack : s.walker.stack.length ≤ 4

theorem RunCountsInRange.frame {s t : State} (h : RunCountsInRange s) (hfifo : t.log.fifo = s.log.fifo)
    (hstack : t.walker.stack = s.walker.stack) : RunCountsInRange t :=
  ⟨by rw [hfifo]; exact h.fifo, by rw [hstack]; exact h.stack⟩

theorem produceRecord_runCounts (r : LogRecord) {s : State} (h : RunCountsInRange s) :
    RunCountsInRange (produceRecord r s) := by
  refine ⟨?_, by simpa using h.stack⟩
  rw [produceRecord_fifo]
  split
  next hplace =>
    rw [List.length_append]
    exact hplace
  · exact h.fifo

theorem produceEndWhenEmpty_runCounts {s : State} (h : RunCountsInRange s) :
    RunCountsInRange (produceEndWhenEmpty s) := by
  refine ⟨?_, by simpa using h.stack⟩
  obtain hsame | ⟨_, r, hend⟩ := produceEndWhenEmpty_fifo s
  · rw [hsame]
    exact h.fifo
  · simp [hend]

theorem enterStopping_runCounts (cause : Cause) (code : FaultCode) (pos : Tags) {s : State} (h : RunCountsInRange s) :
    RunCountsInRange (enterStopping cause code pos s) := by
  simp only [enterStopping, beginDrain]
  refine produceEndWhenEmpty_runCounts ⟨?_, ?_⟩
  · simpa [requestsClear, applierStop, walkerStop] using h.fifo
  · simp [requestsClear, applierStop, walkerStop, Walker.stoppedState]

theorem taking_runCounts {s : State} (h : RunCountsInRange s) : RunCountsInRange (taking s) := by
  unfold taking
  split
  · unfold takeVector
    split
    · exact h.frame (by simp [breakBefore]) (by simp [breakBefore])
    · exact h.frame (by simp) (by simp [dropHead])
  · exact h.frame (by simp) (by simp [takeWait, dropHead])
  · exact enterStopping_runCounts _ _ _ (h.frame rfl rfl)
  · exact enterStopping_runCounts _ _ _ (h.frame rfl rfl)
  · unfold takeEmpty
    split
    · exact h.frame (by simp) (by simp)
    · exact enterStopping_runCounts _ _ _ h

theorem enterPriming_runCounts {s : State} (h : RunCountsInRange s) : RunCountsInRange (enterPriming s) := by
  simp only [enterPriming]
  split
  · exact taking_runCounts (h.frame rfl rfl)
  · exact h.frame rfl rfl

theorem endPeriod_runCounts (p : Period) {s : State} (h : RunCountsInRange s) : RunCountsInRange (endPeriod p s) := by
  simp only [endPeriod]
  split
  · exact enterStopping_runCounts _ _ _ (h.frame (by simp) (by simp))
  · split
    · exact h.frame (by simp) (by simp)
    · exact taking_runCounts (h.frame (by simp) (by simp))

theorem skipSatisfied_stack (s : State) : (skipSatisfied s).walker.stack = s.walker.stack := by
  unfold skipSatisfied
  split
  · simp only
    split <;> rfl
  · rfl

theorem skipTimedOut_stack (s : State) : (skipTimedOut s).walker.stack = s.walker.stack := by
  unfold skipTimedOut
  split <;> rfl

theorem satisfyWait_runCounts (w : WaitProgress) {s : State} (h : RunCountsInRange s) :
    RunCountsInRange (satisfyWait w s) := by
  simp only [satisfyWait]
  refine enterPriming_runCounts ?_
  split
  · exact h.frame (by simp) (skipSatisfied_stack _)
  · exact h.frame rfl rfl

theorem timeoutWait_runCounts (w : WaitProgress) {s : State} (h : RunCountsInRange s) :
    RunCountsInRange (timeoutWait w s) := by
  have hproduced := produceRecord_runCounts (timeoutRecord w s) h
  simp only [timeoutWait]
  split
  · exact enterPriming_runCounts (hproduced.frame (by simp) (skipTimedOut_stack _))
  · exact enterStopping_runCounts _ _ _ (hproduced.frame rfl rfl)

theorem matchSample_runCounts (w : WaitProgress) (pads : Vector HW 4) {s : State} (h : RunCountsInRange s) :
    RunCountsInRange (matchSample w pads s) := by
  simp only [matchSample]
  split
  · exact satisfyWait_runCounts _ (h.frame rfl rfl)
  · exact h.frame rfl rfl

theorem endWaitPeriod_runCounts (w : WaitProgress) {s : State} (h : RunCountsInRange s) :
    RunCountsInRange (endWaitPeriod w s) := by
  simp only [endWaitPeriod]
  split
  · exact h.frame rfl rfl
  · split
    · exact timeoutWait_runCounts _ (h.frame rfl rfl)
    · exact h.frame rfl rfl

theorem strobe_runCounts (p : Period) (pads : Vector HW 4) {s : State} (h : RunCountsInRange s) :
    RunCountsInRange (strobe p pads s) := by
  have hcounted : ∀ {u : State}, RunCountsInRange u → RunCountsInRange (countFailure p u) := fun hu =>
    hu.frame (by simp) (by simp)
  simp only [strobe]
  have hjudged : RunCountsInRange { s with app.period := some { p with strobed := true, tick := p.vec.timing.stb.toNat } } :=
    h.frame rfl rfl
  split
  · refine produceRecord_runCounts _ ?_
    split
    · exact hjudged
    · exact produceRecord_runCounts _ (hcounted hjudged)
  · split
    · exact hjudged
    · exact produceRecord_runCounts _ (hcounted hjudged)

theorem drainAfterPublication_runCounts (r : LogRecord) {s : State} (h : RunCountsInRange s) :
    RunCountsInRange (drainAfterPublication r s) := by
  unfold drainAfterPublication
  split
  · exact h
  · split
    · exact h.frame (by simp) (by simp)
    · exact produceEndWhenEmpty_runCounts h

theorem publish_runCounts {r : LogRecord} {rest : List LogRecord} {s : State} (h : RunCountsInRange s)
    (hfifo : s.log.fifo = r :: rest) : RunCountsInRange (publish r rest (freePort s)) := by
  simp only [publish]
  refine drainAfterPublication_runCounts r ⟨?_, by simpa using h.stack⟩
  have hlen := h.fifo
  rw [hfifo] at hlen
  simpa using (Nat.le_succ _).trans hlen

/-- A shortened drain keeps the record being written, or none. -/
theorem shortenDrain_runCounts {s : State} (h : RunCountsInRange s) : RunCountsInRange (shortenDrain s) := by
  refine ⟨?_, by simpa using h.stack⟩
  simp only [shortenDrain]
  (repeat' split) <;> simp

/-! ### The walker's steps -/

theorem takeEntry_runCounts (i : SegIdx) (e : SegImage) (loopBack : Bool) {s : State} (h : RunCountsInRange s) :
    RunCountsInRange (takeEntry i e loopBack s) := by
  have harrived : ∀ {u : State}, RunCountsInRange u → RunCountsInRange (afterArrival e u) := fun hu => by
    unfold afterArrival
    split <;> exact hu.frame rfl rfl
  simp only [takeEntry]
  split
  · exact h.frame rfl rfl
  · split
    · split
      next hplace => exact harrived ⟨h.fifo, hplace⟩
      · exact h.frame rfl rfl
    · exact harrived (h.frame rfl rfl)

theorem walkerArrive_runCounts (i : SegIdx) (loopBack : Bool) {s : State} (h : RunCountsInRange s) :
    RunCountsInRange (walkerArrive i loopBack s) := by
  simp only [walkerArrive]
  split
  · exact takeEntry_runCounts i _ loopBack h
  · exact h.frame rfl rfl

theorem followLink_runCounts (i : SegIdx) (dest : Link) {s : State} (h : RunCountsInRange s) :
    RunCountsInRange (followLink i dest s) := by
  unfold followLink
  split
  · exact h.frame (by simp) (by simp [goTo])
  · exact h.frame (by simp) (by simp [pushEnd, pushItem])
  · exact h

theorem leaveOpen_runCounts (i : SegIdx) (dest : Link) (tags : Tags) {s : State} (h : RunCountsInRange s) :
    RunCountsInRange (leaveOpen i dest tags s) := by
  unfold leaveOpen
  split
  · exact h.frame rfl rfl
  · exact followLink_runCounts i dest h

/-- A loop-back replaces the stack's top, and a pop takes it off. -/
theorem leaveClosing_runCounts (i : SegIdx) (dest : Link) (tags : Tags) {s : State} (h : RunCountsInRange s) :
    RunCountsInRange (leaveClosing i dest tags s) := by
  have hstack := h.stack
  unfold leaveClosing
  split
  · exact h.frame rfl rfl
  next top rest hopen =>
    rw [hopen] at hstack
    split
    · exact ⟨by simpa [loopBackTo] using h.fifo, by simpa [loopBackTo, goTo] using hstack⟩
    · split
      · exact h.frame rfl rfl
      · split
        · exact h
        · have hpopped : rest.length ≤ 4 := (Nat.le_succ _).trans hstack
          simp only [popAndLeave]
          refine followLink_runCounts i dest ?_
          split
          · exact ⟨h.fifo, hpopped⟩
          · exact ⟨by simpa using h.fifo, by simpa using hpopped⟩

theorem leaveNormally_runCounts (c : CurrentEntry) {s : State} (h : RunCountsInRange s) :
    RunCountsInRange (leaveNormally c s) := by
  unfold leaveNormally
  split
  · exact leaveClosing_runCounts c.idx _ _ h
  · exact leaveOpen_runCounts c.idx _ _ h

theorem leaveThroughAlt_runCounts (c : CurrentEntry) {s : State} (h : RunCountsInRange s) :
    RunCountsInRange (leaveThroughAlt c s) := by
  unfold leaveThroughAlt
  split
  · exact leaveClosing_runCounts c.idx _ _ h
  · exact leaveOpen_runCounts c.idx _ _ h

theorem fetchRecord_runCounts (e : SegImage) {s : State} (h : RunCountsInRange s) :
    RunCountsInRange (fetchRecord e s) := by
  refine h.frame (by simp) ?_
  simp only [fetchRecord, pushRecord]
  (repeat' split) <;> simp [pushFault, pushItem, queueTest]

theorem pushWaitItem_stack (c : CurrentEntry) (s : State) : (pushWaitItem c s).walker.stack = s.walker.stack := by
  simp only [pushWaitItem]
  split <;> rfl

theorem resolveNotReady_runCounts {s : State} (h : RunCountsInRange s) : RunCountsInRange (resolveNotReady s) := by
  simp only [resolveNotReady]
  split
  · exact enterPriming_runCounts (h.frame rfl rfl)
  · exact h.frame rfl rfl

theorem readyPending_runCounts (n : SegIdx) {s : State} (h : RunCountsInRange s) :
    RunCountsInRange (readyPending n s) := by
  unfold readyPending
  split
  · exact resolveNotReady_runCounts (walkerArrive_runCounts n _ h)
  · exact h

theorem RowEffect.keeps_runCounts {s t : State} (heffect : RowEffect s t) (h : RunCountsInRange s) :
    RunCountsInRange t := by
  have hempty : ∀ {u : State}, u.log.fifo = [] → u.walker.stack = [] → RunCountsInRange u := fun hfifo hstack =>
    ⟨by simp [hfifo], by simp [hstack]⟩
  cases heffect with
  | quiet _ hq => exact h.frame (by rw [hq.log]) (by rw [hq.walker])
  | discard _ hq => exact h.frame (by simp [hq.log]) (by simp [hq.walker])
  | windowFreed _ _ hq => exact h.frame (by simp [hq.log]) (by simp [hq.walker])
  | windowWrote _ _ _ _ hq => exact h.frame (by simp [hq.log]) (by simp [hq.walker])
  | start => exact hempty rfl rfl
  | arm => exact hempty rfl rfl
  | reprime => exact enterPriming_runCounts h
  | abort => exact enterStopping_runCounts _ _ _ h
  | shorten => exact shortenDrain_runCounts h
  | ready _ n => exact readyPending_runCounts n h
  | softReset => exact hempty rfl rfl
  | arrive _ i loopBack => exact walkerArrive_runCounts i loopBack h
  | pushWait _ c => exact h.frame (by simp) (pushWaitItem_stack c s)
  | fetchZone => exact h.frame rfl rfl
  | fetched _ _ c => exact fetchRecord_runCounts c.img (h.frame rfl rfl)
  | leave _ c => exact leaveNormally_runCounts c h
  | leaveAlt _ c => exact leaveThroughAlt_runCounts c h
  | taking => exact taking_runCounts h
  | endPeriod p => exact endPeriod_runCounts p h
  | strobe p _ pads => exact strobe_runCounts p pads h
  | matchSample _ w _ pads => exact matchSample_runCounts w pads h
  | endWaitPeriod _ w => exact endWaitPeriod_runCounts w h
  | satisfyWait _ w => exact satisfyWait_runCounts w h
  | starved => exact enterStopping_runCounts _ _ _ h
  | published _ r rest hfifo => exact publish_runCounts h hfifo
  | resetFalls => exact hempty rfl rfl
  | _ => exact h.frame (by simp) (by simp)

end Sys2Proof.Machine
end

section
/-! The window's buffers (R182 to R185): posted writes, the read-ahead, and what a fetch or drain grant has left to do. -/

namespace Sys2Proof.Machine

/-! ## The unit of the window in the grant -/

theorem windowUnit_iff {s : State} {u : WinUnit} : windowUnit s = some u ↔ s.mem.grant = some (.window u) := by
  refine ⟨grant_of_windowUnit, fun hgrant => ?_⟩
  simp [windowUnit, hgrant]

theorem windowUnit_congr {s t : State} (hgrant : t.mem.grant = s.mem.grant) : windowUnit t = windowUnit s := by
  unfold windowUnit
  rw [hgrant]

theorem windowUnit_freePort (s : State) : windowUnit (freePort s) = none := rfl

/-- The walker's grant is none of the window's. -/
theorem windowUnit_of_discardedWalker {s t : State} (hgrant : t.mem.grant = discardedWalker s.mem.grant) :
    windowUnit t = windowUnit s := by
  have hkept : ∀ u, discardedWalker s.mem.grant = some (.window u) ↔ s.mem.grant = some (.window u) := fun u => by
    unfold discardedWalker
    split <;> simp_all
  refine Option.ext fun u => ?_
  rw [windowUnit_iff, windowUnit_iff, hgrant, hkept]

@[simp] theorem windowUnit_enterStopping (cause : Cause) (code : FaultCode) (pos : Tags) (s : State) :
    windowUnit (enterStopping cause code pos s) = windowUnit s :=
  windowUnit_of_discardedWalker (by simp [enterStopping, requestsClear, applierStop, walkerStop, discardWalkerGrant])

@[simp] theorem windowUnit_taking (s : State) : windowUnit (taking s) = windowUnit s := by
  unfold taking
  split
  · unfold takeVector
    split <;> exact windowUnit_congr (by simp)
  · exact windowUnit_congr (by simp)
  · exact windowUnit_enterStopping _ _ _ _
  · exact windowUnit_enterStopping _ _ _ _
  · unfold takeEmpty
    split
    · exact windowUnit_congr (by simp)
    · exact windowUnit_enterStopping _ _ _ _

@[simp] theorem windowUnit_enterPriming (s : State) : windowUnit (enterPriming s) = windowUnit s := by
  simp only [enterPriming]
  split
  · exact (windowUnit_taking _).trans (windowUnit_congr rfl)
  · exact windowUnit_congr rfl

theorem windowUnit_endPeriod (p : Period) (s : State) : windowUnit (endPeriod p s) = windowUnit s := by
  simp only [endPeriod]
  split
  · exact (windowUnit_enterStopping _ _ _ _).trans (windowUnit_congr (by simp))
  · split
    · exact windowUnit_congr (by simp)
    · exact (windowUnit_taking _).trans (windowUnit_congr (by simp))

theorem windowUnit_satisfyWait (w : WaitProgress) (s : State) : windowUnit (satisfyWait w s) = windowUnit s := by
  simp only [satisfyWait]
  split
  · exact (windowUnit_enterPriming _).trans (windowUnit_congr (by simp))
  · exact (windowUnit_enterPriming _).trans (windowUnit_congr rfl)

theorem windowUnit_timeoutWait (w : WaitProgress) (s : State) : windowUnit (timeoutWait w s) = windowUnit s := by
  simp only [timeoutWait]
  split
  · exact (windowUnit_enterPriming _).trans (windowUnit_congr (by simp))
  · exact (windowUnit_enterStopping _ _ _ _).trans (windowUnit_congr (by simp))

theorem windowUnit_matchSample (w : WaitProgress) (pads : Vector HW 4) (s : State) :
    windowUnit (matchSample w pads s) = windowUnit s := by
  simp only [matchSample]
  split
  · exact (windowUnit_satisfyWait _ _).trans (windowUnit_congr rfl)
  · exact windowUnit_congr rfl

theorem windowUnit_endWaitPeriod (w : WaitProgress) (s : State) : windowUnit (endWaitPeriod w s) = windowUnit s := by
  simp only [endWaitPeriod]
  split
  · exact windowUnit_congr rfl
  · split
    · exact (windowUnit_timeoutWait _ _).trans (windowUnit_congr rfl)
    · exact windowUnit_congr rfl

theorem windowUnit_resolveNotReady (s : State) : windowUnit (resolveNotReady s) = windowUnit s := by
  simp only [resolveNotReady]
  split
  · exact (windowUnit_enterPriming _).trans (windowUnit_congr rfl)
  · exact windowUnit_congr rfl

theorem windowUnit_readyPending (n : SegIdx) (s : State) : windowUnit (readyPending n s) = windowUnit s := by
  unfold readyPending
  split
  · exact (windowUnit_resolveNotReady _).trans (windowUnit_congr (by simp))
  · rfl

/-! ## The bounds -/

/-- The window's part of `CountsInRange`. -/
structure WindowInRange (s : State) : Prop where
  posted : s.win.posted.length ≤ 8
  ahead : s.win.ahead.length ≤ 4
  fetch : ∀ f ∈ s.win.fetch, f.n ≤ 4
  fetching : ∀ a n live, windowUnit s = some (.fetch a n live) → n ≤ 4
  draining : ∀ ws, windowUnit s = some (.drain ws true) → ws <+: s.win.posted

theorem WindowInRange.frame {s t : State} (h : WindowInRange s) (hposted : t.win.posted = s.win.posted)
    (hahead : t.win.ahead = s.win.ahead) (hfetch : t.win.fetch = s.win.fetch) (hunit : windowUnit t = windowUnit s) :
    WindowInRange t where
  posted := hposted ▸ h.posted
  ahead := hahead ▸ h.ahead
  fetch := hfetch ▸ h.fetch
  fetching := hunit ▸ h.fetching
  draining := by
    rw [hunit, hposted]
    exact h.draining

/-- The same window, with a free port. -/
theorem WindowInRange.freed {s t : State} (h : WindowInRange s) (hposted : t.win.posted = s.win.posted)
    (hahead : t.win.ahead = s.win.ahead) (hfetch : t.win.fetch = s.win.fetch) (hunit : windowUnit t = none) :
    WindowInRange t where
  posted := hposted ▸ h.posted
  ahead := hahead ▸ h.ahead
  fetch := hfetch ▸ h.fetch
  fetching a n live hu := by simp [hunit] at hu
  draining ws hu := by simp [hunit] at hu

/-- Nothing posted, read ahead, requested or granted. -/
theorem windowInRange_of_empty {s : State} (hposted : s.win.posted = []) (hahead : s.win.ahead = [])
    (hfetch : s.win.fetch = none) (hunit : windowUnit s = none) : WindowInRange s where
  posted := by simp [hposted]
  ahead := by simp [hahead]
  fetch := by simp [hfetch]
  fetching a n live hu := by simp [hunit] at hu
  draining ws hu := by simp [hunit] at hu

/-! ## The read-ahead -/

theorem fetchLength_le (s : State) (z : Zone) : fetchLength s z ≤ 4 := by
  unfold fetchLength
  split
  · exact Nat.min_le_left _ _
  · decide

theorem requestFetch_windowInRange {s : State} (h : WindowInRange s) : WindowInRange (requestFetch s) := by
  unfold requestFetch
  split
  next z _ =>
    refine ⟨h.posted, h.ahead, fun f hf => ?_, h.fetching, h.draining⟩
    obtain rfl := Option.some.inj hf
    exact fetchLength_le s z
  · exact h

theorem fetchForRead_windowInRange {s : State} (h : WindowInRange s) : WindowInRange (fetchForRead s) := by
  unfold fetchForRead
  split
  · exact h
  · exact requestFetch_windowInRange h

theorem serveRead_windowInRange {s : State} (h : WindowInRange s) : WindowInRange (serveRead s) := by
  unfold serveRead
  split
  next v rest hahead =>
    have hlen := h.ahead
    rw [hahead] at hlen
    have hrest : rest.length ≤ 4 := (Nat.le_succ _).trans hlen
    unfold backgroundFetch
    split
    · exact requestFetch_windowInRange ⟨h.posted, hrest, h.fetch, h.fetching, h.draining⟩
    · exact ⟨h.posted, hrest, h.fetch, h.fetching, h.draining⟩
  · exact h

/-- A grant that discards what it fetches is one that fetches, and writes what it wrote. -/
theorem discardedFetch_unit {g : Option Grant} {u : WinUnit} (h : discardedFetch g = some (.window u)) :
    g = some (.window u) ∨ ∃ a n live, g = some (.window (.fetch a n live)) ∧ u = .fetch a n false := by
  unfold discardedFetch at h
  split at h
  next a n live =>
    simp only [Option.some.injEq, Grant.window.injEq] at h
    exact .inr ⟨a, n, live, rfl, h.symm⟩
  · exact .inl h

/-- The read-ahead is discarded: nothing read ahead or requested, and a fetch grant goes on for nothing. -/
theorem WindowInRange.discarded {s t : State} (h : WindowInRange s) (hposted : t.win.posted = s.win.posted)
    (hahead : t.win.ahead = []) (hfetch : t.win.fetch = none) (hgrant : t.mem.grant = discardedFetch s.mem.grant) :
    WindowInRange t where
  posted := hposted ▸ h.posted
  ahead := by simp [hahead]
  fetch := by simp [hfetch]
  fetching a n live hu := by
    rw [windowUnit_iff, hgrant] at hu
    obtain hsame | ⟨a', n', live', hold, heq⟩ := discardedFetch_unit hu
    · exact h.fetching a n live (windowUnit_iff.mpr hsame)
    · obtain ⟨_, rfl, _⟩ := WinUnit.fetch.inj heq
      exact h.fetching a' n live' (windowUnit_iff.mpr hold)
  draining ws hu := by
    rw [windowUnit_iff, hgrant] at hu
    obtain hsame | ⟨_, _, _, _, heq⟩ := discardedFetch_unit hu
    · exact hposted ▸ h.draining ws (windowUnit_iff.mpr hsame)
    · cases heq

theorem discardAhead_windowInRange {s : State} (h : WindowInRange s) : WindowInRange (discardAhead s) :=
  h.discarded rfl rfl rfl rfl

theorem endFetch_windowInRange {a n : Nat} {live : Bool} {s : State} (h : WindowInRange s)
    (hunit : windowUnit s = some (.fetch a n live)) : WindowInRange (endFetch a n live s) := by
  have hread : (readHalves n a (freePort s)).1.length ≤ 4 := by
    rw [readHalves_length]
    exact h.fetching a n live hunit
  have hfreed : windowUnit (readHalves n a (freePort s)).2 = none :=
    (windowUnit_congr (by simp)).trans (windowUnit_freePort s)
  have hfilled : WindowInRange { (readHalves n a (freePort s)).2 with
      win.ahead := (readHalves n a (freePort s)).1, win.fetch := none } := by
    refine ⟨by simpa using h.posted, hread, by simp, fun a n live hu => ?_, fun ws hu => ?_⟩
    · cases hfreed.symm.trans hu
    · cases hfreed.symm.trans hu
  simp only [endFetch]
  split
  · split
    · exact serveRead_windowInRange hfilled
    · exact hfilled
  · exact h.freed (by simp) (by simp) (by simp) hfreed

/-! ## Posted writes -/

/-- A write is posted where the buffer has a place; what a drain grant has left stays the oldest (R184). -/
theorem postWrite_windowInRange (v : HW) {s : State} (h : WindowInRange s) (hplace : s.win.posted.length < 8) :
    WindowInRange (postWrite v s) := by
  have hposted : WindowInRange { s with win.posted := s.win.posted ++ [⟨s.win.waddr, v⟩] } :=
    ⟨by simpa using hplace, h.ahead, h.fetch, h.fetching, fun ws hu => (h.draining ws hu).trans (List.prefix_append _ _)⟩
  exact (discardAhead_windowInRange hposted).frame rfl rfl rfl rfl

theorem takeWrite_windowInRange (v : HW) {s : State} (h : WindowInRange s) (hplace : s.win.posted.length < 8) :
    WindowInRange (takeWrite v s) := by
  unfold takeWrite accessUnless
  split
  · exact h.frame (by simp) (by simp) (by simp) (windowUnit_congr (by simp))
  · exact postWrite_windowInRange v h hplace

theorem drainGrant_unit {live : Bool} {ws : List PostedWrite} {u : WinUnit}
    (h : drainGrant live ws = some (.window u)) : u = .drain ws live := by
  cases ws with
  | nil => cases h
  | cons w ws =>
    simp only [drainGrant, Option.some.injEq, Grant.window.injEq] at h
    exact h.symm

/-- An access goes on after a write has left the buffer. -/
theorem resumeAccess_windowInRange {s : State} (h : WindowInRange s) (hplace : s.win.posted.length < 8) :
    WindowInRange (resumeAccess s) := by
  obtain hsame | hfetch | ⟨v, htaken⟩ := resumeAccess_cases s
  · rwa [hsame]
  · rw [hfetch]
    exact fetchForRead_windowInRange h
  · rw [htaken]
    exact takeWrite_windowInRange v (h.frame rfl rfl rfl rfl) hplace

theorem drainNext_windowInRange {live : Bool} {ws : List PostedWrite} {s : State} (h : WindowInRange s)
    (hunit : windowUnit s = some (.drain ws live)) : WindowInRange (drainNext live s ws) := by
  cases ws with
  | nil => exact h.freed rfl rfl rfl rfl
  | cons w ws =>
    have hfetching : ∀ {u : State} (a n : Nat) (l : Bool), u.mem.grant = drainGrant live ws →
        windowUnit u = some (.fetch a n l) → n ≤ 4 := fun a n l hgrant hu => by
      rw [windowUnit_iff, hgrant] at hu
      cases drainGrant_unit hu
    simp only [drainNext, drainWrite]
    split
    next hlive =>
      subst hlive
      obtain ⟨later, hposted⟩ := h.draining (w :: ws) hunit
      have hlen := h.posted
      rw [← hposted, List.length_append, List.length_cons] at hlen
      have hleft : ws <+: s.win.posted.drop 1 := ⟨later, by rw [← hposted]; rfl⟩
      have hshorter : (s.win.posted.drop 1).length < 8 := by
        rw [← hposted, List.cons_append, List.drop_one, List.tail_cons, List.length_append]
        omega
      refine resumeAccess_windowInRange ⟨hshorter.le, h.ahead, h.fetch, fun a n l => hfetching a n l rfl, ?_⟩ hshorter
      intro ws' hu
      rw [windowUnit_iff] at hu
      obtain ⟨rfl, _⟩ := WinUnit.drain.inj (drainGrant_unit hu)
      exact hleft
    next hdead =>
      refine ⟨h.posted, h.ahead, h.fetch, fun a n l => hfetching a n l rfl, fun ws' hu => ?_⟩
      rw [windowUnit_iff] at hu
      obtain ⟨_, hlive⟩ := WinUnit.drain.inj (drainGrant_unit hu)
      exact absurd hlive.symm hdead

/-! ## The arbiter, FILL and COPY, and SOFT_RESET -/

theorem decideGrant_window {s : State} {w : Option WinUnit} {po : Nat} {u : WinUnit}
    (h : decideGrant s w po = some (.window u)) : w = some u := by
  have hwork : w.map Grant.window = some (.window u) → w = some u := fun hw => by simpa using hw
  unfold decideGrant at h
  split at h
  · cases h
  · split at h
    · exact hwork h
    · split at h
      · cases h
      · split at h
        · cases h
        · split at h
          · cases h
          · split at h
            · cases h
            · split at h
              · exact hwork h
              · split at h <;> cases h

/-- The fetch that the window asks the port for is the one requested. -/
theorem windowWork_fetch {s : State} {a n : Nat} {live : Bool} (h : windowWork s = some (.fetch a n live)) :
    ∃ f ∈ s.win.fetch, f.n = n := by
  simp only [windowWork] at h
  (repeat' split at h) <;> simp_all

/-- The drain that the window asks the port for writes the posted writes. -/
theorem windowWork_drain {s : State} {ws : List PostedWrite} {live : Bool} (h : windowWork s = some (.drain ws live)) :
    ws = s.win.posted.take 8 := by
  simp only [windowWork] at h
  (repeat' split at h) <;> simp_all

theorem arbitrate_windowInRange {s : State} (h : WindowInRange s) : WindowInRange (arbitrate s) := by
  by_cases hbusy : s.mem.grant.isSome = true ∨ s.mem.ready = false
  · refine h.frame (by simp) (by simp) (by simp) (windowUnit_congr ?_)
    obtain hbusy | hinit := hbusy
    · exact arbitrate_busy hbusy
    · exact arbitrate_init hinit
  · obtain ⟨hfree, hready⟩ := not_or.mp hbusy
    have hgrant := arbitrate_free (by simpa using hready) (by simpa using hfree)
    have hwork : ∀ u, windowUnit (arbitrate s) = some u → windowWork s = some u := fun u hu => by
      rw [windowUnit_iff, hgrant] at hu
      exact decideGrant_window hu
    refine ⟨by simpa using h.posted, by simpa using h.ahead, by simpa using h.fetch, fun a n live hu => ?_,
      fun ws hu => ?_⟩
    · obtain ⟨f, hf, rfl⟩ := windowWork_fetch (hwork _ hu)
      exact h.fetch f hf
    · rw [windowWork_drain (hwork _ hu)]
      simpa using List.take_prefix 8 s.win.posted

/-- Fetch and drain grants are not of the operation in flight. -/
theorem uncountGrant_unit {g : Option Grant} {u : WinUnit} (h : uncountGrant g = some (.window u))
    (hkind : u.isFetch = true ∨ u.isDrain = true) : g = some (.window u) := by
  unfold uncountGrant at h
  split at h
  · obtain rfl := Grant.window.inj (Option.some.inj h)
    simp [WinUnit.isFetch, WinUnit.isDrain] at hkind
  · obtain rfl := Grant.window.inj (Option.some.inj h)
    simp [WinUnit.isFetch, WinUnit.isDrain] at hkind
  · obtain rfl := Grant.window.inj (Option.some.inj h)
    simp [WinUnit.isFetch, WinUnit.isDrain] at hkind
  · exact h

theorem startMemop_windowInRange (op : MemOp) {s : State} (h : WindowInRange s) : WindowInRange (startMemop op s) := by
  have hdiscarded := discardAhead_windowInRange h
  have hkept : ∀ u, (u.isFetch = true ∨ u.isDrain = true) → windowUnit (startMemop op s) = some u →
      windowUnit (discardAhead s) = some u := fun u hkind hu =>
    windowUnit_iff.mpr (uncountGrant_unit (windowUnit_iff.mp hu) hkind)
  exact ⟨hdiscarded.posted, hdiscarded.ahead, hdiscarded.fetch,
    fun a n live hu => hdiscarded.fetching a n live (hkept _ (.inl rfl) hu),
    fun ws hu => hdiscarded.draining ws (hkept _ (.inr rfl) hu)⟩

/-- A SOFT_RESET leaves a fetch or drain grant to end for nothing. -/
theorem orphanGrant_unit {g : Option Grant} {u : WinUnit} (h : orphanGrant g = some (.window u)) :
    (∀ a n live, u = .fetch a n live → ∃ l, g = some (.window (.fetch a n l))) ∧ ∀ ws, u ≠ .drain ws true := by
  unfold orphanGrant at h
  split at h
  next ws live =>
    obtain rfl := Grant.window.inj (Option.some.inj h)
    exact ⟨nofun, nofun⟩
  next a n live =>
    obtain rfl := Grant.window.inj (Option.some.inj h)
    refine ⟨fun a' n' live' heq => ⟨live, ?_⟩, nofun⟩
    obtain ⟨rfl, rfl, _⟩ := WinUnit.fetch.inj heq
    rfl
  · obtain rfl := Grant.window.inj (Option.some.inj h)
    exact ⟨nofun, nofun⟩
  · obtain rfl := Grant.window.inj (Option.some.inj h)
    exact ⟨nofun, nofun⟩
  · obtain rfl := Grant.window.inj (Option.some.inj h)
    exact ⟨nofun, nofun⟩
  next hdrain hfetch _ _ _ =>
    refine ⟨fun a n live heq => ?_, fun ws heq => ?_⟩
    · exact absurd (heq ▸ h) (hfetch a n live)
    · exact absurd (heq ▸ h) (hdrain ws true)

theorem softReset_windowInRange (n : Nat) {s : State} (h : WindowInRange s) :
    WindowInRange (softResetRun (softResetWindow (endWriterGrant n s))) := by
  have hended : ∀ u, windowUnit (endWriterGrant n s) = some u → windowUnit s = some u := fun u hu => by
    unfold endWriterGrant at hu
    split at hu
    · cases hu
    · exact hu
  have hunit : ∀ u, windowUnit (softResetRun (softResetWindow (endWriterGrant n s))) = some u →
      orphanGrant (endWriterGrant n s).mem.grant = some (.window u) := fun u hu => by
    have hstopped := windowUnit_of_discardedWalker (s := softResetWindow (endWriterGrant n s))
      (t := softResetRun (softResetWindow (endWriterGrant n s))) rfl
    exact windowUnit_iff.mp (hstopped.symm.trans hu)
  refine ⟨by simp [softResetWindow], by simp [softResetWindow], by simp [softResetWindow], fun a n' live hu => ?_,
    fun ws hu => ?_⟩
  · obtain ⟨live', hold⟩ := (orphanGrant_unit (hunit _ hu)).1 a n' live rfl
    exact h.fetching a n' live' (hended _ (windowUnit_iff.mpr hold))
  · exact absurd rfl ((orphanGrant_unit (hunit _ hu)).2 ws)

/-! ## Every row -/

theorem RowEffect.keeps_windowInRange {s t : State} (heffect : RowEffect s t) (h : WindowInRange s) :
    WindowInRange t := by
  cases heffect with
  | quiet _ hq => exact h.frame hq.posted hq.ahead hq.fetch (windowUnit_congr hq.grant)
  | discard _ hq =>
    exact (discardAhead_windowInRange h).frame hq.posted hq.ahead hq.fetch (windowUnit_congr hq.grant)
  | windowFreed _ _ hq => exact h.freed hq.posted hq.ahead hq.fetch (windowUnit_congr hq.grant)
  | windowWrote _ _ _ _ hq => exact h.freed hq.posted hq.ahead hq.fetch (windowUnit_congr hq.grant)
  | reprime => exact h.frame (by simp) (by simp) (by simp) (windowUnit_enterPriming s)
  | abort => exact h.frame (by simp) (by simp) (by simp) (windowUnit_enterStopping _ _ _ s)
  | ready _ n => exact h.frame (by simp) (by simp) (by simp) (windowUnit_readyPending n s)
  | memop _ op => exact startMemop_windowInRange op h
  | softReset _ n => exact softReset_windowInRange n h
  | serveRead => exact serveRead_windowInRange h
  | fetchForRead => exact fetchForRead_windowInRange h
  | postWrite _ v hplace => exact postWrite_windowInRange v h hplace
  | fetched _ _ c =>
    exact h.freed (by simp) (by simp) (by simp) ((windowUnit_congr (by simp)).trans (windowUnit_freePort s))
  | unfetched | unpublished => exact h.freed rfl rfl rfl rfl
  | taking => exact h.frame (by simp) (by simp) (by simp) (windowUnit_taking s)
  | endPeriod p => exact h.frame (by simp) (by simp) (by simp) (windowUnit_endPeriod p s)
  | matchSample _ w _ pads => exact h.frame (by simp) (by simp) (by simp) (windowUnit_matchSample w pads s)
  | endWaitPeriod _ w => exact h.frame (by simp) (by simp) (by simp) (windowUnit_endWaitPeriod w s)
  | satisfyWait _ w => exact h.frame (by simp) (by simp) (by simp) (windowUnit_satisfyWait w s)
  | starved => exact h.frame (by simp) (by simp) (by simp) (windowUnit_enterStopping _ _ _ s)
  | published _ r rest =>
    exact h.freed (by simp) (by simp) (by simp) ((windowUnit_congr (by simp)).trans (windowUnit_freePort s))
  | refreshed => exact h.freed rfl rfl rfl rfl
  | drained ws live hgrant => exact drainNext_windowInRange h (windowUnit_iff.mpr hgrant)
  | endFetch a n live hgrant => exact endFetch_windowInRange h (windowUnit_iff.mpr hgrant)
  | resetFalls _ n =>
    have hwin : ∀ w : Window, w.atResetN.posted = [] ∧ w.atResetN.ahead = [] ∧ w.atResetN.fetch = none := fun w => by
      unfold Window.atResetN
      split <;> exact ⟨rfl, rfl, rfl⟩
    obtain ⟨hposted, hahead, hfetch⟩ := hwin s.win
    refine windowInRange_of_empty hposted hahead hfetch (Option.eq_none_iff_forall_ne_some.mpr fun u hu => ?_)
    rw [windowUnit_iff] at hu
    obtain hnone | hrefresh := (resetN_inReset n s).mem.grant
    · simp [hnone] at hu
    · simp [hrefresh] at hu
  | _ => exact h.frame (by simp) (by simp) (by simp) (windowUnit_congr (by simp))

/-! ## All the counts -/

theorem countsInRange_iff {s : State} :
    CountsInRange s ↔ OwedInRange s ∧ PassoverInRange s ∧ RunCountsInRange s ∧ WindowInRange s := by
  constructor
  · rintro ⟨howed, hpassover, hfifo, hstack, hposted, hahead, hfetch, hfetching, hdraining⟩
    exact ⟨howed, hpassover, ⟨hfifo, hstack⟩, hposted, hahead, hfetch,
      fun a n live hu => hfetching a n live (windowUnit_iff.mp hu), fun ws hu => hdraining ws (windowUnit_iff.mp hu)⟩
  · rintro ⟨howed, hpassover, ⟨hfifo, hstack⟩, hposted, hahead, hfetch, hfetching, hdraining⟩
    exact ⟨howed, hpassover, hfifo, hstack, hposted, hahead, hfetch,
      fun a n live hu => hfetching a n live (windowUnit_iff.mpr hu), fun ws hu => hdraining ws (windowUnit_iff.mpr hu)⟩

theorem stepKeepsCountsInRange : Claims.StepKeepsCountsInRange := by
  refine step_keeps (fun s rest h => h) (fun s h => ?tick) (fun s h => ?arbitrate) (fun s t heffect h => ?effect)
    fun s msize _ => ?por
  case tick =>
    obtain ⟨howed, hpassover, hrun, hwindow⟩ := countsInRange_iff.mp h
    exact countsInRange_iff.mpr ⟨howed.frame (by simp), hpassover.frame (by simp), hrun.frame (by simp) (by simp),
      hwindow.frame (by simp) (by simp) (by simp) (windowUnit_congr (by simp))⟩
  case arbitrate =>
    obtain ⟨howed, hpassover, hrun, hwindow⟩ := countsInRange_iff.mp h
    exact countsInRange_iff.mpr ⟨howed.frame (by simp), arbitrate_passoverInRange hpassover,
      hrun.frame (by simp) (by simp), arbitrate_windowInRange hwindow⟩
  case effect =>
    obtain ⟨howed, hpassover, hrun, hwindow⟩ := countsInRange_iff.mp h
    exact countsInRange_iff.mpr ⟨heffect.keeps_owedInRange howed, heffect.keeps_passoverInRange hpassover,
      heffect.keeps_runCounts hrun, heffect.keeps_windowInRange hwindow⟩
  case por =>
    exact countsInRange_iff.mpr ⟨Nat.zero_le 8, Nat.zero_le 16, ⟨Nat.zero_le 16, Nat.zero_le 4⟩,
      windowInRange_of_empty rfl rfl rfl rfl⟩

/-- Settles O6: every write of pattern memory keeps its form, and each count is checked where it rises. -/
theorem stepKeepsMemoryCanonicalAndCountsInRange : Obligations.StepKeepsMemoryCanonicalAndCountsInRange :=
  ⟨stepKeepsMemoryCanonical, stepKeepsCountsInRange⟩

end Sys2Proof.Machine
end

section
/-! The arbiter's decision and the requests it decides over (09_pattern_memory.md, R168 to R170), and pattern memory read after
writes (R159, R160). -/

namespace Sys2Proof.Machine

/-! ## The ranks (R169) -/

/-- The first rank that applies decides. -/
theorem firstRank_cons (applies : Bool) (grant : Option Grant) (rest : List (Bool × Option Grant)) :
    (((applies, grant) :: rest).find? (·.1)).bind (·.2) =
      if applies then grant else (rest.find? (·.1)).bind (·.2) := by
  cases applies <;> rfl

/-- With work for the DRAM the window's second rank waits for 16 grants passed over. -/
theorem windowOverdue_iff (s : State) (w : Option WinUnit) :
    (w.isSome && decide (passoverNow s w = 16)) = (w.isSome && decide (s.mem.passover = 16)) := by
  cases w <;> rfl

theorem decideGrant_eq_firstRank (s : State) (w : Option WinUnit) :
    decideGrant s w (passoverNow s w) = ((Claims.ranks s w).find? (·.1)).bind (·.2) := by
  simp only [Claims.ranks, firstRank_cons, decideGrant, windowOverdue_iff, hungry, writerRequest, Bool.beq_eq_decide_eq,
    decide_eq_true_eq]
  rfl

theorem grantsFollowTheRanks : Claims.GrantsFollowTheRanks := by
  refine fun s => ⟨⟨_, _, arbitrate_eq s⟩, fun hheld => ?_, fun hready hfree => ?_⟩
  · obtain hinit | hbusy := hheld
    · exact arbitrate_init hinit
    · exact arbitrate_busy (Option.isSome_iff_ne_none.mpr hbusy)
  · rw [arbitrate_free hready hfree, decideGrant_eq_firstRank]

/-! ## The requests -/

/-- An enabled zone contains an address. -/
theorem containsRange_one (z : Zone) (a : Nat) :
    z.containsRange a 1 = true ↔ z.enabled = true ∧ z.base.toNat ≤ a ∧ a ≤ z.limit.toNat := by
  simp [Zone.containsRange, and_assoc]

/-- Of disjoint zones one at most contains an address. -/
theorem ZonesDisjoint.unique {s : State} (h : ZonesDisjoint s) {a : Nat} {i j : Fin 8}
    (hi : s.mem.zones[i].containsRange a 1 = true) (hj : s.mem.zones[j].containsRange a 1 = true) : i = j := by
  obtain ⟨hien, hibase, hilimit⟩ := (containsRange_one _ _).mp hi
  obtain ⟨hjen, hjbase, hjlimit⟩ := (containsRange_one _ _).mp hj
  by_contra hne
  have hapart := h.2 i j hne hien hjen
  have hshared : (s.mem.zones[i]).overlaps s.mem.zones[j] = true := by
    simp only [Zone.overlaps, Bool.and_eq_true, decide_eq_true_eq]
    exact ⟨hibase.trans hjlimit, hjbase.trans hilimit⟩
  rw [hshared] at hapart
  cases hapart

/-- An address lies in a zone of a kind exactly when one of the enabled zones of that kind contains it. -/
theorem rangeInKind_one_iff {s : State} (h : ZonesDisjoint s) (k : ZoneKind) (a : Nat) :
    rangeInKind s k a 1 = true ↔ ∃ i : Fin 8, s.mem.zones[i].enabled = true ∧ s.mem.zones[i].kind = k ∧
      s.mem.zones[i].base.toNat ≤ a ∧ a ≤ s.mem.zones[i].limit.toNat := by
  unfold rangeInKind
  cases hzone : rangeZone s a 1 with
  | none =>
    refine ⟨nofun, fun ⟨i, hen, _, hbase, hlimit⟩ => ?_⟩
    have hnot := List.find?_eq_none.mp hzone _ (Vector.mem_toList_iff.mpr (Vector.getElem_mem i.isLt))
    exact absurd ((containsRange_one _ _).mpr ⟨hen, hbase, hlimit⟩) hnot
  | some z =>
    have hin := List.find?_some hzone
    obtain ⟨n, hn, hz⟩ := Vector.getElem_of_mem (Vector.mem_toList_iff.mp (List.mem_of_find?_eq_some hzone))
    obtain ⟨hen, hbase, hlimit⟩ := (containsRange_one z a).mp hin
    constructor
    · intro hkind
      have hkind : z.kind = k := by simpa using hkind
      subst hz
      exact ⟨⟨n, hn⟩, hen, hkind, hbase, hlimit⟩
    · rintro ⟨i, hien, hikind, hibase, hilimit⟩
      have hi := (containsRange_one (s.mem.zones[i]) a).mpr ⟨hien, hibase, hilimit⟩
      subst hz
      have hsame := h.unique (i := ⟨n, hn⟩) hin hi
      subst hsame
      simpa using hikind

/-- The occupancy of the ring as a distance (R138). -/
theorem occupancy_eq_emod {s : State} (hring : RingInRange s) :
    (occupancy s : Int) = ((s.log.wp.toNat : Int) - s.log.rp.toNat) % (s.log.size.toNat : Int) := by
  obtain ⟨_, _, _, hrp⟩ := hring
  rw [occupancy, Int.natCast_mod, Nat.cast_sub (by omega), Nat.cast_add, add_sub_right_comm, Int.add_emod_right]

theorem length_halfwords (r : LogRecord) : r.halfwords.length = r.length := by
  simp [LogRecord.halfwords, LogRecord.length]
  omega

/-- A record fits the ring's room. -/
theorem le_room_iff {s : State} (hring : RingInRange s) (r : LogRecord) :
    r.length ≤ room s ↔ (r.halfwords.length : Int) ≤
      (s.log.size.toNat : Int) - 1 - ((s.log.wp.toNat : Int) - s.log.rp.toNat) % (s.log.size.toNat : Int) := by
  have hocc : occupancy s < s.log.size.toNat := Nat.mod_lt _ (by have := hring.1; omega)
  rw [← occupancy_eq_emod hring, length_halfwords, room]
  omega

theorem requestsStandByTheirConditions : Claims.RequestsStandByTheirConditions := by
  refine fun s hzones hring => ⟨?walker, fun hempty => ?_, fun r rest hfifo => ?_⟩
  case walker =>
    rw [← rangeInKind_one_iff hzones]
    simp [walkerRequest, and_assoc]
  · simp [writerState, hempty]
  · refine ⟨fun hgrant => ?_, fun hgrant hfits => ?_, fun hgrant hfits => ?_⟩
    · simp [writerState, hfifo, writerGranted, hgrant]
    · have hroom := (le_room_iff hring r).mpr hfits
      simp [writerState, hfifo, writerGranted, hgrant, hroom]
    · have hroom := mt (le_room_iff hring r).mp hfits
      simp only [writerState, hfifo, writerGranted, beq_iff_eq, if_neg hgrant, if_neg hroom]

theorem windowRequestsItsNextUnit : Claims.WindowRequestsItsNextUnit := by
  refine fun s => ⟨fun o ho => ?_, fun horphan => ⟨fun r hr => ?_, fun hpatch hposted => ?_, fun hpatch hposted => ?_⟩⟩
  · simp [windowWork, ho]
  · simp [windowWork, horphan, hr]
  · simp [windowWork, horphan, hpatch, hposted]
  · refine ⟨fun dst len v hop => ?_, fun src dst len hop => ?_, fun src dst len xs hop => ?_, fun f hop hfetch => ?_,
      fun hop hfetch => ?_⟩
    · simp [windowWork, horphan, hpatch, hposted, hop]
    · simp [windowWork, horphan, hpatch, hposted, hop]
    · simp [windowWork, horphan, hpatch, hposted, hop]
    · simp [windowWork, horphan, hpatch, hposted, hop, hfetch]
    · simp [windowWork, horphan, hpatch, hposted, hop, hfetch]

/-- Settles O13: the nested ranks of the decision are the list's first that applies; disjoint zones make the walker's zone the
one found, and the ring's room is a distance round it. -/
theorem arbiterFollowsTheRanks : Obligations.ArbiterFollowsTheRanks :=
  ⟨grantsFollowTheRanks, requestsStandByTheirConditions, windowRequestsItsNextUnit⟩

/-! ## The passed-over count (R170) -/

theorem arbitrate_passover_held {s : State} (hheld : s.mem.ready = false ∨ s.mem.grant ≠ none) :
    (arbitrate s).mem.passover = passoverNow s (windowWork s) := by
  have hbusy : (s.mem.grant.isSome || !s.mem.ready) = true := by
    obtain hinit | hgrant := hheld
    · simp [hinit]
    · simp [Option.isSome_iff_ne_none.mpr hgrant]
  simp only [arbitrate, hbusy, if_true]

theorem arbitrate_passover_free {s : State} (hready : s.mem.ready = true) (hfree : s.mem.grant = none) :
    (arbitrate s).mem.passover =
      passoverAfter (windowWork s) (passoverNow s (windowWork s)) (arbitrate s).mem.grant := by
  simp [arbitrate, hready, hfree]

/-- With no window request no count is kept. -/
theorem passoverAfter_none (g : Option Grant) : passoverAfter none 0 g = 0 := by
  unfold passoverAfter
  split <;> rfl

/-- Settles O14, by the kind of the grant made. -/
theorem passedOverCountFollowsTheGrants : Obligations.PassedOverCountFollowsTheGrants := by
  intro s
  have hstands : windowWork s ≠ none → passoverNow s (windowWork s) = s.mem.passover := fun hwork => by
    simp [passoverNow, Option.isSome_iff_ne_none.mpr hwork]
  refine ⟨fun hnone => ?_, fun hwork hheld => ?_, fun hwork hready hfree => ?_⟩
  · by_cases hheld : s.mem.ready = false ∨ s.mem.grant ≠ none
    · rw [arbitrate_passover_held hheld, hnone]
      rfl
    · obtain ⟨hready, hfree⟩ := not_or.mp hheld
      rw [arbitrate_passover_free (by simpa using hready) (not_not.mp hfree), hnone]
      exact passoverAfter_none _
  · rw [arbitrate_passover_held hheld, hstands hwork]
  · rw [arbitrate_passover_free hready hfree, hstands hwork]
    have hsome := Option.isSome_iff_ne_none.mpr hwork
    refine ⟨fun hgrant => ?_, fun u hgrant => ?_, fun hgrant => ?_⟩
    · obtain hgrant | hgrant := hgrant <;> rw [hgrant] <;> simp [passoverAfter, hsome]
    · rw [hgrant]
      rfl
    · rw [hgrant]
      rfl

/-! ## Pattern memory -/

/-- The halfword that a read of an unlisted address gives, by the address and the power-on or by the reads so far. -/
theorem readHalf_value_congr {s t : State} {a : Nat} (hcells : t.dram.cells.read? a = s.dram.cells.read? a)
    (hepoch : t.dram.epoch = s.dram.epoch) (hdecayed : t.dram.decayed = s.dram.decayed) (hfree : t.free = s.free) :
    (readHalf a t).1 = (readHalf a s).1 := by
  unfold readHalf
  rw [hcells, hepoch, hdecayed, hfree]
  (repeat' split) <;> rfl

/-- Settles O15, by whether the address is one of those written. -/
theorem memoryReadsGiveTheLastWrite : Obligations.MemoryReadsGiveTheLastWrite := by
  refine fun s a b vs => ⟨fun hwritten hle => ?_, fun hother => ?_, fun hfresh => ?_⟩
  · have hread := Memory.read?_writeList_inside s.dram.cells a vs hwritten
    rw [Nat.add_sub_cancel' hle] at hread
    exact readHalf_known hread
  · have hsame := Memory.read?_writeList_outside s.dram.cells a vs hother
    exact ⟨readHalf_value_congr hsame rfl rfl rfl, hsame⟩
  · cases hknown : s.dram.cells.read? b with
    | some v => rw [readHalf_known hknown]
    | none => rw [readHalf_unknown hknown hfresh]

end Sys2Proof.Machine
end

section
/-! The classes of lanes (01_pins_ports_and_lanes.md, R13) and the closed forms of the modifier's operations
(02_vector_records_and_timing_sets.md, R30, Table 2-6). -/

namespace Sys2Proof.Machine

/-! ## Lane classes (R13) -/

/-- A lane value is 0 exactly when every one of the lane's pins is 0. -/
theorem laneValue_eq_zero_iff {v : HW} {w i : Nat} (hi : i < 16 / w) :
    laneValue v w i = 0 ↔ ∀ k, 16 - (i + 1) * w ≤ k ∧ k ≤ 15 - i * w → v.getLsbD k = false := by
  rw [← not_iff_not, ← ne_eq, laneValue_ne_zero_iff hi]
  push Not
  simp only [and_assoc, ne_eq, Bool.not_eq_false]

/-- A lane value has every bit set exactly when every one of the lane's pins is 1. -/
theorem laneValue_eq_ones_iff {v : HW} {w i : Nat} (hi : i < 16 / w) :
    laneValue v w i = 2 ^ w - 1 ↔ ∀ k, 16 - (i + 1) * w ≤ k ∧ k ≤ 15 - i * w → v.getLsbD k = true := by
  obtain ⟨hw, hpins⟩ := lane_within_pins hi
  rw [Nat.succ_mul] at hpins ⊢
  constructor
  · rintro hones k ⟨hlow, hhigh⟩
    have hbit := testBit_laneValue v w i (k - (16 - (i * w + w)))
    rw [hones, Nat.testBit_two_pow_sub_one, Nat.succ_mul, Nat.add_sub_cancel' hlow,
      decide_eq_true (by omega : k - (16 - (i * w + w)) < w)] at hbit
    simpa using hbit.symm
  · intro hall
    refine Nat.eq_of_testBit_eq fun j => ?_
    rw [testBit_laneValue, Nat.testBit_two_pow_sub_one, Nat.succ_mul]
    by_cases hj : j < w
    · rw [hall (16 - (i * w + w) + j) (by omega), Bool.and_true]
    · simp [hj]

/-- A lane of all ones is not one of all zeros. -/
theorem ones_ne_zero {w : Nat} (hw : 0 < w) : 2 ^ w - 1 ≠ 0 := by
  have := Nat.one_lt_two_pow hw.ne'
  omega

theorem laneClass_compared_iff {w i : Nat} {part : PortPart} (hw : 0 < w) :
    laneClass w part i = .compared ↔ laneValue part.dir w i = 0 ∧ laneValue part.care w i = 2 ^ w - 1 := by
  have hne := ones_ne_zero hw
  simp only [laneClass]
  constructor
  · intro h
    split at h
    · cases h
    · split at h
      · cases h
      · split at h
        next hboth => exact hboth
        · cases h
  · rintro ⟨hdir, hcare⟩
    rw [hdir, hcare, if_neg hne.symm, if_neg hne, if_pos ⟨rfl, rfl⟩]

theorem laneClass_notCompared_iff {w i : Nat} {part : PortPart} :
    laneClass w part i = .notCompared ↔ laneValue part.dir w i = 2 ^ w - 1 ∨ laneValue part.care w i = 0 := by
  simp only [laneClass]
  split
  next hdir => simp [hdir]
  next hdir =>
    split
    next hcare => simp [hcare]
    next hcare => split <;> simp [hdir, hcare]

/-- Settles O19: each condition on the lane's pins is one on the lane's value. -/
theorem laneClassFollowsDirectionsAndCare : Obligations.LaneClassFollowsDirectionsAndCare := by
  intro cfg part observed i hi w pin allDrive allReceive allCared noneCared
  obtain ⟨hw, _⟩ := lane_within_pins hi
  have hcompared : laneClass w part i = .compared ↔ allReceive ∧ allCared := by
    rw [laneClass_compared_iff hw, laneValue_eq_zero_iff hi, laneValue_eq_ones_iff hi]
  have hnot : laneClass w part i = .notCompared ↔ allDrive ∨ noneCared := by
    rw [laneClass_notCompared_iff, laneValue_eq_zero_iff hi, laneValue_eq_ones_iff hi]
  refine ⟨hcompared, hnot, ?mixed, fun hkind hclass => ?passes⟩
  case mixed =>
    rw [← hcompared, ← hnot]
    cases laneClass w part i <;> simp
  case passes => simp [laneFails, hkind, show laneClass cfg.width.pins part i = .notCompared from hclass]

/-! ## The modifier's operations on bit vectors (R30) -/

/-- One application of MODOP to a lane, on its bit vector (Table 12-8). -/
def modifyOnce {w : Nat} (op : BitVec 3) (v : BitVec w) : BitVec w :=
  if op = 0 then v else if op = 1 then v + 1 else if op = 2 then v - 1 else if op = 3 then v <<< 1
  else if op = 4 then v >>> 1 else if op = 5 then v.rotateLeft 1 else if op = 6 then v.rotateRight 1
  else ~~~v

/-- A rotation left as the sum of the bits moved up and the bits that fall out. -/
theorem toNat_rotateLeft_eq_add {w : Nat} (hw : 0 < w) (v : BitVec w) (k : Nat) :
    (v.rotateLeft k).toNat = v.toNat * 2 ^ (k % w) % 2 ^ w + v.toNat / 2 ^ (w - k % w) := by
  have hk := Nat.mod_lt k hw
  have hsplit : 2 ^ w = 2 ^ (k % w) * 2 ^ (w - k % w) := by rw [← pow_add, Nat.add_sub_cancel' hk.le]
  have hlow : v.toNat / 2 ^ (w - k % w) < 2 ^ (k % w) := by
    rw [Nat.div_lt_iff_lt_mul (Nat.two_pow_pos _), ← hsplit]
    exact v.isLt
  have hhigh : v.toNat * 2 ^ (k % w) % 2 ^ w = 2 ^ (k % w) * (v.toNat % 2 ^ (w - k % w)) := by
    rw [mul_comm, hsplit, Nat.mul_mod_mul_left]
  rw [BitVec.toNat_rotateLeft, Nat.shiftLeft_eq, Nat.shiftRight_eq_div_pow, hhigh,
    Nat.two_pow_add_eq_or_of_lt hlow]

/-- A rotation right as the sum of the bits moved down and the bits that fall out. -/
theorem toNat_rotateRight_eq_add {w : Nat} (hw : 0 < w) (v : BitVec w) (k : Nat) :
    (v.rotateRight k).toNat = v.toNat / 2 ^ (k % w) + v.toNat % 2 ^ (k % w) * 2 ^ (w - k % w) := by
  have hk := Nat.mod_lt k hw
  have hsplit : 2 ^ w = 2 ^ (w - k % w) * 2 ^ (k % w) := by rw [← pow_add, Nat.sub_add_cancel hk.le]
  have hlow : v.toNat / 2 ^ (k % w) < 2 ^ (w - k % w) := by
    rw [Nat.div_lt_iff_lt_mul (Nat.two_pow_pos _), ← hsplit]
    exact v.isLt
  have hhigh : v.toNat * 2 ^ (w - k % w) % 2 ^ w = 2 ^ (w - k % w) * (v.toNat % 2 ^ (k % w)) := by
    rw [mul_comm, hsplit, Nat.mul_mod_mul_left]
  rw [BitVec.toNat_rotateRight, Nat.shiftLeft_eq, Nat.shiftRight_eq_div_pow, hhigh, Nat.or_comm,
    ← Nat.two_pow_add_eq_or_of_lt hlow, Nat.add_comm, mul_comm]

/-- A pin of a lane rotated left. -/
theorem rotateLeft_pin {w : Nat} (v : BitVec w) (k : Nat) {i : Nat} (hi : i < w) :
    (v.rotateLeft k).getLsbD i = v.getLsbD (if i < k % w then w - k % w + i else i - k % w) := by
  rw [BitVec.getLsbD_rotateLeft, Bool.cond_decide, decide_eq_true hi, Bool.true_and]
  split <;> rfl

/-- A pin of a lane rotated right. -/
theorem rotateRight_pin {w : Nat} (v : BitVec w) (k : Nat) {i : Nat} (hi : i < w) :
    (v.rotateRight k).getLsbD i = v.getLsbD (if i < w - k % w then k % w + i else i - (w - k % w)) := by
  rw [BitVec.getLsbD_rotateRight, Bool.cond_decide, decide_eq_true hi, Bool.true_and]
  split <;> rfl

theorem rotateLeft_zero {w : Nat} (v : BitVec w) : v.rotateLeft 0 = v :=
  BitVec.eq_of_getLsbD_eq fun i hi => by simp [rotateLeft_pin v 0 hi]

theorem rotateRight_zero {w : Nat} (v : BitVec w) : v.rotateRight 0 = v :=
  BitVec.eq_of_getLsbD_eq fun i hi => by simp [hi]

/-- The places of a rotation, one more. -/
theorem succ_mod {w : Nat} (hw : 0 < w) (k : Nat) : (k + 1) % w = if k % w + 1 = w then 0 else k % w + 1 := by
  have hk := Nat.mod_lt k hw
  rw [← Nat.mod_add_mod]
  split
  next hwrap => rw [hwrap, Nat.mod_self]
  next hnot => exact Nat.mod_eq_of_lt (by omega)

/-- One more place of a rotation left. -/
theorem rotateLeft_succ {w : Nat} (hw : 0 < w) (v : BitVec w) (k : Nat) :
    v.rotateLeft (k + 1) = (v.rotateLeft k).rotateLeft 1 := by
  refine BitVec.eq_of_getLsbD_eq fun i hi => ?_
  have hk := Nat.mod_lt k hw
  have hone := succ_mod hw 0
  rw [Nat.zero_mod] at hone
  have hin : (if i < 1 % w then w - 1 % w + i else i - 1 % w) < w := by split <;> omega
  rw [rotateLeft_pin v _ hi, rotateLeft_pin _ 1 hi, rotateLeft_pin v k hin, succ_mod hw k, hone]
  congr 1
  split_ifs <;> omega

/-- One more place of a rotation right. -/
theorem rotateRight_succ {w : Nat} (hw : 0 < w) (v : BitVec w) (k : Nat) :
    v.rotateRight (k + 1) = (v.rotateRight k).rotateRight 1 := by
  refine BitVec.eq_of_getLsbD_eq fun i hi => ?_
  have hk := Nat.mod_lt k hw
  have hone := succ_mod hw 0
  rw [Nat.zero_mod] at hone
  have hin : (if i < w - 1 % w then 1 % w + i else i - (w - 1 % w)) < w := by split <;> omega
  rw [rotateRight_pin v _ hi, rotateRight_pin _ 1 hi, rotateRight_pin v k hin, succ_mod hw k, hone]
  congr 1
  split_ifs <;> omega

/-! ## The closed forms (Table 2-6) -/

/-- k applications of MODOP to a lane, on its bit vector, as Table 2-6 gives them. -/
def modifyTimes {w : Nat} (op : BitVec 3) (v : BitVec w) (k : Nat) : BitVec w :=
  if op = 0 then v else if op = 1 then v + BitVec.ofNat w k else if op = 2 then v - BitVec.ofNat w k
  else if op = 3 then v <<< k else if op = 4 then v >>> k else if op = 5 then v.rotateLeft k
  else if op = 6 then v.rotateRight k else if k % 2 = 1 then ~~~v else v

theorem modop_cases (op : BitVec 3) :
    op = 0 ∨ op = 1 ∨ op = 2 ∨ op = 3 ∨ op = 4 ∨ op = 5 ∨ op = 6 ∨ op = 7 := by
  revert op
  decide

theorem modifyTimes_zero {w : Nat} (op : BitVec 3) (v : BitVec w) : modifyTimes op v 0 = v := by
  obtain rfl | rfl | rfl | rfl | rfl | rfl | rfl | rfl := modop_cases op
  · rfl
  · exact BitVec.add_zero v
  · exact BitVec.sub_zero v
  · exact BitVec.shiftLeft_zero v
  · exact BitVec.ushiftRight_zero v
  · exact rotateLeft_zero v
  · exact rotateRight_zero v
  · rfl

theorem modifyTimes_succ {w : Nat} (hw : 0 < w) (op : BitVec 3) (v : BitVec w) (k : Nat) :
    modifyTimes op v (k + 1) = modifyOnce op (modifyTimes op v k) := by
  obtain rfl | rfl | rfl | rfl | rfl | rfl | rfl | rfl := modop_cases op
  · rfl
  · change v + BitVec.ofNat w (k + 1) = v + BitVec.ofNat w k + 1#w
    rw [BitVec.ofNat_add, BitVec.add_assoc]
  · change v - BitVec.ofNat w (k + 1) = v - BitVec.ofNat w k - 1#w
    rw [BitVec.ofNat_add, sub_sub]
  · exact BitVec.shiftLeft_add v k 1
  · exact BitVec.shiftRight_add v k 1
  · exact rotateLeft_succ hw v k
  · exact rotateRight_succ hw v k
  · change (if (k + 1) % 2 = 1 then ~~~v else v) = ~~~(if k % 2 = 1 then ~~~v else v)
    obtain hk | hk := Nat.mod_two_eq_zero_or_one k
    · rw [if_pos (by omega), if_neg (by omega)]
    · rw [if_neg (by omega), if_pos hk, BitVec.not_not]

theorem modifyTimes_eq_iterate {w : Nat} (hw : 0 < w) (op : BitVec 3) (v : BitVec w) (k : Nat) :
    modifyTimes op v k = (modifyOnce op)^[k] v := by
  induction k with
  | zero => exact modifyTimes_zero op v
  | succ k ih => rw [modifyTimes_succ hw, ih, Function.iterate_succ_apply']

/-- The lane value of Table 2-6 is that of the bit vector. -/
theorem laneModify_toNat {w : Nat} (hw : 0 < w) (op : BitVec 3) (v : BitVec w) (k : Nat) :
    laneModify op w v.toNat k = (modifyTimes op v k).toNat := by
  obtain rfl | rfl | rfl | rfl | rfl | rfl | rfl | rfl := modop_cases op
  · rfl
  · change (v.toNat + k) % 2 ^ w = (v + BitVec.ofNat w k).toNat
    rw [BitVec.toNat_add, BitVec.toNat_ofNat, Nat.add_mod_mod]
  · change (v.toNat + (2 ^ w - k % 2 ^ w)) % 2 ^ w = (v - BitVec.ofNat w k).toNat
    rw [BitVec.toNat_sub, BitVec.toNat_ofNat, Nat.add_comm]
  · change (if w ≤ k then 0 else v.toNat * 2 ^ k % 2 ^ w) = (v <<< k).toNat
    rw [BitVec.toNat_shiftLeft, Nat.shiftLeft_eq]
    split
    next hout => exact (Nat.mod_eq_zero_of_dvd (Dvd.dvd.mul_left (pow_dvd_pow 2 hout) _)).symm
    · rfl
  · change (if w ≤ k then 0 else v.toNat / 2 ^ k) = (v >>> k).toNat
    rw [BitVec.toNat_ushiftRight, Nat.shiftRight_eq_div_pow]
    split
    next hout => exact (Nat.div_eq_of_lt (v.isLt.trans_le (Nat.pow_le_pow_right (by decide) hout))).symm
    · rfl
  · exact (toNat_rotateLeft_eq_add hw v k).symm
  · exact (toNat_rotateRight_eq_add hw v k).symm
  · change (if k % 2 = 1 then 2 ^ w - 1 - v.toNat else v.toNat) = (if k % 2 = 1 then ~~~v else v).toNat
    split
    · rw [BitVec.toNat_not]
    · rfl

/-- One application to the lane value is that to the bit vector. -/
theorem laneModifyOnce_toNat {w : Nat} (hw : 0 < w) (op : BitVec 3) (v : BitVec w) :
    laneModifyOnce op w v.toNat = (modifyOnce op v).toNat := by
  have hone : 1 % 2 ^ w = 1 := Nat.mod_eq_of_lt (Nat.one_lt_two_pow hw.ne')
  obtain rfl | rfl | rfl | rfl | rfl | rfl | rfl | rfl := modop_cases op
  · rfl
  · change (v.toNat + 1) % 2 ^ w = (v + 1#w).toNat
    rw [BitVec.toNat_add, BitVec.toNat_ofNat, Nat.add_mod_mod]
  · change (v.toNat + (2 ^ w - 1)) % 2 ^ w = (v - 1#w).toNat
    rw [BitVec.toNat_sub, BitVec.toNat_ofNat, hone, Nat.add_comm]
  · change v.toNat * 2 % 2 ^ w = (v <<< 1).toNat
    rw [BitVec.toNat_shiftLeft, Nat.shiftLeft_eq, pow_one]
  · change v.toNat / 2 = (v >>> 1).toNat
    rw [BitVec.toNat_ushiftRight, Nat.shiftRight_eq_div_pow, pow_one]
  · change v.toNat * 2 % 2 ^ w + v.toNat / 2 ^ (w - 1) = (v.rotateLeft 1).toNat
    rw [toNat_rotateLeft_eq_add hw]
    obtain rfl | hwide := Nat.eq_or_lt_of_le (Nat.succ_le_of_lt hw)
    · have hbit : v.toNat < 2 := v.isLt
      simp
      omega
    · rw [Nat.mod_eq_of_lt hwide, pow_one]
  · change v.toNat / 2 + v.toNat % 2 * 2 ^ (w - 1) = (v.rotateRight 1).toNat
    rw [toNat_rotateRight_eq_add hw]
    obtain rfl | hwide := Nat.eq_or_lt_of_le (Nat.succ_le_of_lt hw)
    · have hbit : v.toNat < 2 := v.isLt
      simp
      omega
    · rw [Nat.mod_eq_of_lt hwide, pow_one]
  · exact BitVec.toNat_not.symm

/-- Settles O20: on bit vectors Table 2-6 is one application repeated, by induction on the number of them. -/
theorem modifierRepeatsOneApplication : Obligations.ModifierRepeatsOneApplication := by
  intro op w v k hwidth
  have hw : 0 < w := by
    obtain rfl | rfl | rfl | rfl := hwidth <;> decide
  have hrepeats : Function.Semiconj BitVec.toNat (modifyOnce op) (laneModifyOnce op w) := fun v =>
    (laneModifyOnce_toNat hw op v).symm
  refine ⟨?_, laneModifyOnce_toNat hw op v⟩
  rw [laneModify_toNat hw, modifyTimes_eq_iterate hw, hrepeats.iterate_right k v]

end Sys2Proof.Machine
end

section
/-! The run commands (06_run_control.md, R101 to R121): START and ARM, PAUSE, RESUME and STEP, and ABORT, by the sequencer's
state; the entry to STOPPING and the records of the drain, as the statements give them. -/

namespace Sys2Proof.Machine

/-! ## The rows -/

theorem exec_pause (s : State) : exec .pause s = command 0x03 pauseRun s := rfl

theorem exec_abort (s : State) : exec .abort s = command 0x06 abortRun s := rfl

/-- A command whose checks pass becomes its effect. -/
theorem command_becomes_of_passes {cmd : HW} {refusal : State → Option Status} {f : State → State} {s : State}
    (hfree : busFree s = true) (hpasses : refusal (takeCmd cmd s) = none) :
    Claims.Becomes (command cmd (fun s => cmdUnless (refusal s) f s) s) (f (takeCmd cmd s)) :=
  command_becomes hfree (by rw [hpasses, cmdUnless])

/-- A command whose checks refuse it becomes the refused command. -/
theorem command_becomes_of_refused {cmd : HW} {refusal : State → Option Status} {f : State → State} {s : State}
    {code : Status} (hfree : busFree s = true) (hrefused : refusal (takeCmd cmd s) = some code) :
    Claims.Becomes (command cmd (fun s => cmdUnless (refusal s) f s) s) (Claims.refusedCmd cmd code s) :=
  command_becomes hfree (by rw [hrefused, cmdUnless, refuseCmd_takeCmd cmd code hfree])

/-! ## START and ARM (R102 to R105) -/

theorem linkOf_of_lt {n : BitVec 7} {i : SegIdx} (h : n.toNat = i.val) : linkOf n = .entry i := by
  have hlt : n.toNat < 64 := h ▸ i.isLt
  rw [linkOf, dif_pos hlt]
  exact congrArg Link.entry (Fin.ext h)

theorem startEntry_of_startseg {s : State} {i : SegIdx} (h : s.seg.startseg.toNat = i.val) : startEntry s = i := by
  rw [startEntry, linkOf_of_lt h]

/-- The start checks pass in IDLE with the memory ready, nothing posted or in flight, the ring in a LOG zone and STARTSEG an
entry; ARM's, if also the line of ARMCFG is an input. -/
theorem startRefusal_eq_none {s : State} {isArm : Bool} (hidle : s.run.state = .idle) (hready : s.mem.ready = true)
    (hposted : s.win.posted = []) (hmemop : s.win.memop = .idle)
    (hring : rangeInKind s .log s.log.base.toNat s.log.size.toNat = true) (hstart : s.seg.startseg.toNat < 64)
    (hline : isArm = true → s.trig.lines[s.run.armcfg].mode = .input) : startRefusal isArm s = none := by
  rw [startRefusal, if_neg (not_not.mpr hidle), firstRefusal_eq_none_iff]
  have harm : (isArm && s.trig.lines[s.run.armcfg].mode != .input) = false := by
    cases isArm with
    | false => rfl
    | true => rw [hline rfl]; rfl
  simp only [List.forall_mem_cons, harm]
  simp [hready, hposted, memopBusy, hmemop, hring, hstart]

/-- Settles O22: with the start checks passed the command clears the run and begins the walk. -/
theorem startAndArmBeginARun : Obligations.StartAndArmBeginARun := by
  intro s i hfree hidle hready hposted hmemop hring hstartseg
  have hstart : s.seg.startseg.toNat < 64 := hstartseg ▸ i.isLt
  refine ⟨?start, fun hline => ?arm⟩
  case start =>
    have hpasses : startRefusal false (takeCmd 0x01 s) = none :=
      startRefusal_eq_none hidle hready hposted hmemop hring hstart nofun
    have hentry : startEntry (takeCmd 0x01 s) = i := startEntry_of_startseg hstartseg
    have hbegins := command_becomes_of_passes (f := startRun) hfree hpasses
    rw [startRun, hentry] at hbegins
    exact hbegins
  case arm =>
    have hpasses : startRefusal true (takeCmd 0x02 s) = none :=
      startRefusal_eq_none hidle hready hposted hmemop hring hstart fun _ => hline
    have hentry : startEntry (takeCmd 0x02 s) = i := startEntry_of_startseg hstartseg
    have hbegins := command_becomes_of_passes (f := armRun) hfree hpasses
    rw [armRun, hentry] at hbegins
    exact hbegins

/-- Outside IDLE both are refused. -/
theorem startRefusal_of_not_idle {s : State} (isArm : Bool) (hstate : s.run.state ≠ .idle) :
    startRefusal isArm s = some .wrongState := by
  rw [startRefusal, if_pos hstate]

/-- Settles O23, check by check. -/
theorem startChecksRefuseInOrder : Obligations.StartChecksRefuseInOrder := by
  intro s isArm code hfree ring hfails
  have hrefused : startRefusal isArm s = some code := by
    obtain ⟨hstate, rfl⟩ | ⟨hidle, hfails⟩ := hfails
    · exact startRefusal_of_not_idle isArm hstate
    rw [startRefusal, if_neg (not_not.mpr hidle)]
    obtain ⟨hready, rfl⟩ | ⟨hready, hfails⟩ := hfails
    · simp [hready]
    obtain ⟨hposted, rfl⟩ | ⟨hposted, hfails⟩ := hfails
    · simp [hready, hposted, firstRefusal]
    obtain ⟨hmemop, rfl⟩ | ⟨hmemop, hfails⟩ := hfails
    · simp [hready, hposted, memopBusy, hmemop, firstRefusal]
    obtain ⟨hring, rfl⟩ | ⟨hring, rfl, hentry⟩ := hfails
    · simp [hready, hposted, memopBusy, hmemop, show rangeInKind s .log s.log.base.toNat s.log.size.toNat = false from hring]
    have hpasses : rangeInKind s .log s.log.base.toNat s.log.size.toNat = true := hring
    obtain hstart | ⟨rfl, hline⟩ := hentry
    · simp [hready, hposted, memopBusy, hmemop, hpasses, hstart]
    · by_cases hstart : 64 ≤ s.seg.startseg.toNat
      · simp [hready, hposted, memopBusy, hmemop, hpasses, hstart]
      · have hmode : (s.trig.lines[s.run.armcfg].mode != .input) = true := bne_iff_ne.mpr hline
        simp only [hready, hposted, memopBusy, hmemop, hpasses, hmode, hstart]
        rfl
  cases isArm with
  | false => exact command_becomes_of_refused (refusal := startRefusal false) hfree hrefused
  | true => exact command_becomes_of_refused (refusal := startRefusal true) hfree hrefused

/-! ## PAUSE (R107) -/

theorem enterPaused_eq {cause : Cause} {suspended : Option Cause} {s : State} (hreset : s.resetLow = false) :
    enterPaused cause suspended s = Claims.withFlag 2
      { s with app.stream := .held, run.state := .paused, run.cause := cause, run.suspended := suspended } :=
  raise_of_reset_high .paused hreset

theorem enterWaiting_eq {cause : Cause} {s : State} (hreset : s.resetLow = false) :
    enterWaiting cause s = Claims.withFlag 3
      { s with app.stream := .held, run.state := .waiting, run.cause := cause, run.suspended := none } :=
  raise_of_reset_high .waiting hreset

/-- In a state in which no run plays a pause is refused. -/
theorem pauseRun_refused {s : State} (hrunning : s.run.state ≠ .running) (hwaiting : s.run.state ≠ .waiting) :
    pauseRun s = refuseCmd .wrongState s := by
  unfold pauseRun
  split
  case h_1 hstate => exact absurd hstate hrunning
  case h_2 hstate => exact absurd hstate hwaiting
  all_goals rfl

/-- Settles O24, by the sequencer's state and the stream's. -/
theorem pauseActsByTheSequencerState : Obligations.PauseActsByTheSequencerState := by
  intro s hfree
  obtain ⟨hreset, _⟩ := busFree_iff.mp hfree
  rw [exec_pause]
  refine ⟨fun hrunning hstream => ?_, fun hrunning hstream => ?_, fun hwaiting => ?_, fun hrunning hwaiting => ?_⟩
  · apply command_becomes hfree
    rw [pauseRun, show (takeCmd 0x03 s).run.state = .running from hrunning]
    exact if_pos hstream
  · apply command_becomes hfree
    rw [pauseRun, show (takeCmd 0x03 s).run.state = .running from hrunning]
    exact (if_neg hstream).trans (enterPaused_eq hreset)
  · apply command_becomes hfree
    rw [pauseRun, show (takeCmd 0x03 s).run.state = .waiting from hwaiting]
    exact enterPaused_eq hreset
  · apply command_becomes hfree
    rw [pauseRun_refused (s := takeCmd 0x03 s) hrunning hwaiting, refuseCmd_takeCmd 0x03 .wrongState hfree]

/-! ## RESUME and STEP (R109, R116, R117) -/

/-- What RESUME and STEP do, by the wait that the pause suspended. -/
theorem resumeRun_of_none {s : State} (h : s.run.suspended = none) : resumeRun s = enterPriming s := by
  rw [resumeRun, h]

theorem resumeRun_of_wait {s : State} {k : Cause} (h : s.run.suspended = some k) (hk : k ≠ .notReady) :
    resumeRun s = enterWaiting k (restartWaitPeriod s) := by
  rw [resumeRun, h]
  split
  next hnot => exact absurd (Option.some.inj hnot) hk
  next hsome => rw [Option.some.inj hsome]
  next hnone => cases hnone

theorem resumeRun_of_stalled {s : State} (h : s.run.suspended = some .notReady) (hst : s.walker.st = .stallReady)
    (hstarve : s.run.starve ≠ none) : resumeRun s = enterWaiting .notReady s := by
  rw [resumeRun, h]
  exact if_pos ⟨hst, Option.isSome_iff_ne_none.mpr hstarve⟩

theorem resumeRun_of_resolved {s : State} (h : s.run.suspended = some .notReady)
    (hgone : ¬ (s.walker.st = .stallReady ∧ s.run.starve ≠ none)) :
    resumeRun s = enterPriming { s with run.starve := none } := by
  rw [resumeRun, h]
  refine if_neg fun hstalled => hgone ⟨hstalled.1, Option.isSome_iff_ne_none.mp hstalled.2⟩

/-- The state in which RESUME or STEP resumes the run: the command accepted, the step request set by STEP. -/
def resumed (isStep : Bool) (s : State) : State :=
  { Claims.accepted (if isStep then 0x05 else 0x04) s with run.stepReq := isStep || s.run.stepReq }

theorem resume_becomes {s : State} (isStep : Bool) (hfree : busFree s = true) (hpaused : s.run.state = .paused) :
    Claims.Becomes (exec (if isStep then .step else .resume) s) (resumeRun (resumed isStep s)) := by
  have hpasses : ∀ cmd, notPaused (takeCmd cmd s) = none := fun cmd => if_pos hpaused
  cases isStep with
  | false => exact command_becomes_of_passes (refusal := notPaused) hfree (hpasses 0x04)
  | true => exact command_becomes_of_passes (refusal := notPaused) hfree (hpasses 0x05)

/-- Settles O25, by the suspended wait. -/
theorem resumeAndStepLeaveThePause : Obligations.ResumeAndStepLeaveThePause := by
  intro s isStep hfree row code s' primes stalled
  obtain ⟨hreset, _⟩ := busFree_iff.mp hfree
  refine ⟨fun hstate => ?refused, fun hpaused => ⟨fun hnone => ?_, fun k hwait hk => ?_, fun hwait hstalled => ?_,
    fun hwait hgone => ?_⟩⟩
  case refused =>
    have hrefused : ∀ cmd, notPaused (takeCmd cmd s) = some .wrongState := fun cmd => if_neg hstate
    cases isStep with
    | false => exact command_becomes_of_refused (refusal := notPaused) hfree (hrefused 0x04)
    | true => exact command_becomes_of_refused (refusal := notPaused) hfree (hrefused 0x05)
  all_goals have hresumes := resume_becomes isStep hfree hpaused
  · rw [resumeRun_of_none (s := resumed isStep s) hnone] at hresumes
    exact hresumes
  · rw [resumeRun_of_wait (s := resumed isStep s) hwait hk,
      enterWaiting_eq (s := restartWaitPeriod (resumed isStep s)) hreset] at hresumes
    exact hresumes
  · rw [resumeRun_of_stalled (s := resumed isStep s) hwait hstalled.1 hstalled.2,
      enterWaiting_eq (s := resumed isStep s) hreset] at hresumes
    exact hresumes
  · rw [resumeRun_of_resolved (s := resumed isStep s) hwait hgone] at hresumes
    exact hresumes

end Sys2Proof.Machine
end

section
/-! The end of a run (06_run_control.md, R121 to R124, R128): the entry to STOPPING and the END record, ABORT, and SOFT_RESET as
the statements give them. -/

namespace Sys2Proof.Machine

/-! ## Park application and the stop of the walker and the applier -/

theorem parkPort_eq (cfg : PortCfg) (pins : PinState) :
    parkPort cfg pins =
      if cfg.enabled then
        match cfg.park with
        | .hiz => ⟨0, pins.level⟩
        | .low => ⟨0xFFFF#16, 0⟩
        | .high => ⟨0xFFFF#16, 0xFFFF#16⟩
        | .hold => pins
      else pins := by
  unfold parkPort parkPins
  cases cfg.park <;> rfl

theorem vec4_eq_ofFn {α : Type} (f : Fin 4 → α) : vec4 f = Vector.ofFn f := by
  refine Vector.ext fun i hi => ?_
  rw [Vector.getElem_ofFn]
  exact getElem_vec4 f ⟨i, hi⟩

theorem parkAll_eq (s : State) : parkAll s = { s with ports.pins := Claims.parkedPins s } := by
  simp only [parkAll, parkPort_eq, vec4_eq_ofFn]
  rfl

/-- What a stop does before the drain. -/
theorem stopped_eq (s : State) :
    linesAllOff (parkAll (requestsClear (applierStop (walkerStop s)))) = Claims.stopped s := by
  rw [parkAll_eq]
  rfl

/-! ## The entry to STOPPING (R122, R146) -/

/-- Into an empty FIFO a record goes alone. -/
theorem produceRecord_of_empty {s : State} (r : LogRecord) (hfifo : s.log.fifo = []) :
    produceRecord r s = { s with log.fifo := [{ r with seq := s.log.seqno }], log.seqno := s.log.seqno + 1 } := by
  simp only [produceRecord, hfifo]
  rfl

/-- The END record in the state of the stop. -/
theorem endRecord_eq {s : State} {cause : Cause} {fault : FaultRecord} (hcause : s.run.cause = cause)
    (hfault : s.run.fault = fault) :
    { endRecord s with seq := s.log.seqno } = Claims.endRecord cause fault s := by
  subst hcause hfault
  simp only [endRecord, Claims.endRecord, beq_iff_eq]
  split <;> rfl

theorem produceEndWhenEmpty_of_empty {s : State} (hfifo : s.log.fifo = []) (hfirst : s.log.endProduced = false) :
    produceEndWhenEmpty s =
      { s with log.fifo := [{ endRecord s with seq := s.log.seqno }], log.seqno := s.log.seqno + 1,
               log.endProduced := true } := by
  rw [produceEndWhenEmpty, if_pos ⟨hfifo, hfirst⟩]
  exact produceRecord_of_empty _ hfifo

/-- A drain begins: with the FIFO empty its END record is produced. -/
theorem beginDrain_eq {s : State} {cause : Cause} {fault : FaultRecord} (hcause : s.run.cause = cause)
    (hfault : s.run.fault = fault) :
    beginDrain s =
      if s.log.fifo = [] then
        { s with log.fifo := [Claims.endRecord cause fault s], log.seqno := s.log.seqno + 1, log.endProduced := true }
      else { s with log.endProduced := false } := by
  rw [beginDrain]
  by_cases hfifo : s.log.fifo = []
  · rw [if_pos hfifo, ← endRecord_eq hcause hfault]
    exact produceEndWhenEmpty_of_empty hfifo rfl
  · rw [if_neg hfifo]
    exact if_neg fun h => hfifo h.1

theorem enterStopping_eq (cause : Cause) (code : FaultCode) (pos : Tags) (s : State) :
    enterStopping cause code pos s = Claims.stopping cause (if cause = .fault then ⟨code, pos⟩ else s.run.fault) s := by
  have hstopped : ∀ fault : FaultRecord,
      linesAllOff (parkAll { requestsClear (applierStop (walkerStop s)) with
        run.state := .stopping, run.cause := cause, run.fault := fault }) =
      { Claims.stopped s with run.state := .stopping, run.cause := cause, run.fault := fault } := fun fault => by
    rw [← stopped_eq]
    rfl
  simp only [enterStopping]
  rw [hstopped, beginDrain_eq rfl rfl]
  rfl

theorem stopRun_eq {cause : Cause} (hcause : cause ≠ .fault) (s : State) :
    stopRun cause s = Claims.stopping cause s.run.fault s := by
  rw [stopRun, enterStopping_eq, if_neg hcause]

theorem stopOnFault_eq (code : FaultCode) (pos : Tags) (s : State) :
    stopOnFault code pos s = Claims.stopping .fault ⟨code, pos⟩ s := by
  rw [stopOnFault, enterStopping_eq, if_pos rfl]

/-! ## ABORT (R121, R147) -/

theorem abortRun_of_plays {s : State} (hactive : runActive s = true) (hstate : s.run.state ≠ .stopping) :
    abortRun s = stopRun .abort (acceptCmd s) := by
  unfold abortRun
  unfold runActive at hactive
  cases hs : s.run.state <;> simp [hs] at hactive hstate ⊢

theorem abortRun_of_stopping {s : State} (hstate : s.run.state = .stopping) :
    abortRun s = if s.run.drainAborted then acceptCmd s else shortenDrain (acceptCmd s) := by
  rw [abortRun, hstate]

theorem abortRun_refused {s : State} (hidle : runActive s = false) : abortRun s = refuseCmd .wrongState s := by
  unfold abortRun
  unfold runActive at hidle
  cases hs : s.run.state <;> simp [hs] at hidle ⊢

theorem drainComplete_eq {s : State} (hreset : s.resetLow = false) :
    drainComplete s = if s.run.cause = .fault then Claims.withFlag 1 { s with run.state := .faulted }
      else Claims.withFlag 0 { s with run.state := .ended } := by
  unfold drainComplete
  split
  · exact raise_of_reset_high .runFault hreset
  · exact raise_of_reset_high .runEnd hreset

theorem raiseIf_eq (b : Bool) (f : EvFlag) {s : State} (hreset : s.resetLow = false) :
    raiseIf b f s = if b then Claims.withFlag f.bit s else s := by
  rw [raiseIf, raise_of_reset_high f hreset]

/-- The records that an ABORT in STOPPING keeps. -/
def drainKept (s : State) : List LogRecord := if s.mem.grant = some .writer then s.log.fifo.take 1 else []

/-- The log as an ABORT in STOPPING leaves it. -/
def cutLog (s : State) : State :=
  let n := s.log.fifo.length - (drainKept s).length
  let cut : State :=
    { s with
      log.fifo := drainKept s, run.drainAborted := true
      log.dropcount := if s.log.dropcount.toNat + n < 2 ^ 32 then s.log.dropcount + BitVec.ofNat 32 n
                       else 0xFFFFFFFF#32 }
  if n = 0 then cut else Claims.withFlag 6 cut

theorem shortenDrain_cut {s : State} (hreset : s.resetLow = false) :
    shortenDrain s = if drainKept s = [] then drainComplete (cutLog s) else cutLog s := by
  have hkept : (if writerGranted s then s.log.fifo.take 1 else []) = drainKept s := by
    simp [writerGranted, drainKept]
  have hcut : ∀ {n : Nat} {u : State}, u.resetLow = false →
      raiseIf (decide (1 ≤ n)) .logDrop u = if n = 0 then u else Claims.withFlag 6 u := fun {n u} hu => by
    rw [raiseIf_eq _ _ hu]
    cases n with
    | zero => rfl
    | succ n => rfl
  simp only [shortenDrain, hkept]
  rw [hcut (by exact hreset)]
  rfl

theorem cutLog_frame (s : State) : (cutLog s).resetLow = s.resetLow ∧ (cutLog s).run.cause = s.run.cause := by
  simp only [cutLog]
  split <;> exact ⟨rfl, rfl⟩

theorem shortenDrain_eq {s : State} (hreset : s.resetLow = false) :
    shortenDrain s =
      if drainKept s ≠ [] then cutLog s
      else if s.run.cause = .fault then Claims.withFlag 1 { cutLog s with run.state := .faulted }
      else Claims.withFlag 0 { cutLog s with run.state := .ended } := by
  obtain ⟨hlow, hcause⟩ := cutLog_frame s
  rw [shortenDrain_cut hreset, drainComplete_eq (hlow.trans hreset), hcause, ite_not]

/-- Settles O27, by the sequencer's state and whether the drain has been shortened before. -/
theorem abortStopsTheRunOrShortensTheDrain : Obligations.AbortStopsTheRunOrShortensTheDrain := by
  intro s hfree
  obtain ⟨hreset, _⟩ := busFree_iff.mp hfree
  rw [exec_abort]
  refine ⟨fun hactive hstate => ?_, fun hstate hagain => ?_, fun hstate hfirst => ?_, fun hidle => ?_⟩
  · apply command_becomes hfree
    rw [abortRun_of_plays (s := takeCmd 0x06 s) hactive hstate, acceptCmd_takeCmd, stopRun_eq (by decide)]
    rfl
  · apply command_becomes hfree
    rw [abortRun_of_stopping (s := takeCmd 0x06 s) hstate, acceptCmd_takeCmd]
    exact if_pos hagain
  · apply command_becomes hfree
    rw [abortRun_of_stopping (s := takeCmd 0x06 s) hstate, acceptCmd_takeCmd,
      show (takeCmd 0x06 s).run.drainAborted = false from hfirst, if_neg Bool.false_ne_true,
      shortenDrain_eq (s := Claims.accepted 0x06 s) hreset]
    rfl
  · apply command_becomes hfree
    rw [abortRun_refused (s := takeCmd 0x06 s) hidle, refuseCmd_takeCmd 0x06 .wrongState hfree]

/-! ## SOFT_RESET (R128, R148, R191) -/

theorem exec_softReset (n : Nat) (s : State) :
    exec (.softReset n) s = command 0x5A (fun s => softResetRun (softResetWindow (endWriterGrant n s))) s := rfl

/-- Halfwords written into the ring from its halfword `i` on. -/
theorem writeRing_eq_foldl (s : State) (m : Memory) (i : Nat) (hs : List HW) :
    writeRing s m i hs = (hs.zipIdx i).foldl
      (fun m x => m.write (s.log.base.toNat + (s.log.wp.toNat + x.2) % s.log.size.toNat) x.1) m := by
  induction hs generalizing m i with
  | nil => rfl
  | cons h hs ih => exact ih _ (i + 1)

/-- A writer grant ended: its record's halfwords written so far stay in the ring. -/
theorem endWriterGrant_of_writer {s : State} {r : LogRecord} {rest : List LogRecord} (n : Nat)
    (hgrant : s.mem.grant = some .writer) (hfifo : s.log.fifo = r :: rest) :
    endWriterGrant n s =
      { s with mem.grant := none
               dram.cells := Claims.ringWritten s (r.halfwords.take (min n (r.halfwords.length - 1))) } := by
  rw [endWriterGrant, if_pos (writerGranted_iff.mpr hgrant), partialTransfer, hgrant, hfifo, length_halfwords,
    Claims.ringWritten, ← writeRing_eq_foldl]
  rfl

theorem endWriterGrant_of_empty {s : State} (n : Nat) (hgrant : s.mem.grant = some .writer) (hfifo : s.log.fifo = []) :
    endWriterGrant n s = { s with mem.grant := none } := by
  rw [endWriterGrant, if_pos (writerGranted_iff.mpr hgrant), partialTransfer, hgrant, hfifo]
  rfl

theorem endWriterGrant_of_other {s : State} (n : Nat) (hgrant : s.mem.grant ≠ some .writer) : endWriterGrant n s = s :=
  if_neg fun hw => hgrant (writerGranted_iff.mp hw)

/-- The grant after a SOFT_RESET, and the walker's stop, in either order. -/
theorem grantLeft_discardedWalker (g : Option Grant) :
    discardedWalker (orphanGrant g) = Claims.grantLeft (discardedWalker g) := by
  rcases g with _ | ⟨_ | _ | _ | u⟩
  · rfl
  · rfl
  · rfl
  · rfl
  · cases u with
    | fill d n v o | copyRead a d n o | copyWrite d xs o => cases o <;> rfl
    | drain ws live | fetch a n live | patch r => rfl

/-- A burst of the operation in flight holds the port. -/
theorem orphanWrite_eq (s : State) : orphanWrite s = Claims.writeLeft s := by
  unfold orphanWrite Claims.writeLeft windowHolds windowUnit
  rcases hop : s.win.memop with _ | ⟨dst, len, v⟩ | ⟨src, dst, len, _ | xs⟩
  · rfl
  · rfl
  · rfl
  rcases hgrant : s.mem.grant with _ | ⟨_ | _ | _ | u⟩
  · rfl
  · rfl
  · rfl
  · rfl
  · cases u with
    | fill d n v o | copyRead a d n o | copyWrite d xs o => cases o <;> rfl
    | drain ws live | fetch a n live | patch r => rfl

/-- With the grant ended in another way than the window's the same write is left. -/
theorem writeLeft_of_notWindow {s t : State} (hmemop : t.win.memop = s.win.memop) (hcount : t.win.mopCount = s.win.mopCount)
    (horphan : t.win.orphan = s.win.orphan) (hs : s.mem.grant = some .writer) (ht : t.mem.grant = none) :
    Claims.writeLeft t = Claims.writeLeft s := by
  unfold Claims.writeLeft
  rw [hmemop, hcount, horphan, hs, ht]
  split <;> simp_all

/-- SOFT_RESET once the writer's grant has ended. -/
theorem softReset_eq (s : State) :
    softResetRun (softResetWindow s) =
      { Claims.stopped s with
        run := { (Claims.stopped s).run with
          state := .idle, cause := .none, fault := ⟨.none, ⟨0, 0, 0, 0⟩⟩, drainAborted := false }
        app := { (Claims.stopped s).app with
          vcount := 0, failcount := 0, firstfail := ⟨⟨0, 0, 0, 0⟩, 0⟩, passdone := ⟨127, 0, 0⟩ }
        log := { s.log with fifo := [], seqno := 0, dropcount := 0, endProduced := false }
        seg.lastrel := 127
        trig.latch := 0
        ev.flags := 0
        mem.passover := 0
        mem.grant := Claims.grantLeft (Claims.stopped s).mem.grant
        win := { s.win with posted := [], ahead := [], fetch := none, memop := .idle, orphan := Claims.writeLeft s
                            cmdstat := .ok, cmdres := 0, winerr := ⟨.ok, 0⟩
                            mopLast := if s.win.memop = .idle then s.win.mopLast else .cancelled } } := by
  have hlast : (if memopBusy s then MopLast.cancelled else s.win.mopLast) =
      if s.win.memop = .idle then s.win.mopLast else .cancelled := by
    simp [memopBusy]
  have hgrant : discardedWalker (orphanGrant s.mem.grant) = Claims.grantLeft (Claims.stopped s).mem.grant :=
    grantLeft_discardedWalker s.mem.grant
  simp only [softResetRun, softResetWindow, parkAll_eq, orphanWrite_eq, hlast, ← hgrant]
  rfl

/-- Settles O28, by whether the writer holds the port. -/
theorem softResetClearsTheRunAndKeepsTheConfiguration : Obligations.SoftResetClearsTheRunAndKeepsTheConfiguration := by
  intro s n hfree cut t
  have hcut : ∃ g cells, cut = { s with mem.grant := g, dram.cells := cells } ∧
      endWriterGrant n (takeCmd 0x5A s) = takeCmd 0x5A cut ∧
      Claims.writeLeft (takeCmd 0x5A cut) = Claims.writeLeft s := by
    by_cases hgrant : s.mem.grant = some .writer
    · cases hfifo : s.log.fifo with
      | nil =>
        have heq : cut = { s with mem.grant := none } := by simp only [cut, hgrant, hfifo]
        refine ⟨none, s.dram.cells, heq, ?_, ?_⟩ <;> rw [heq]
        · exact endWriterGrant_of_empty n hgrant hfifo
        · exact writeLeft_of_notWindow rfl rfl rfl hgrant rfl
      | cons r rest =>
        have heq : cut = { s with
            mem.grant := none
            dram.cells := Claims.ringWritten s (r.halfwords.take (min n (r.halfwords.length - 1))) } := by
          simp only [cut, hgrant, hfifo]
        refine ⟨none, _, heq, ?_, ?_⟩ <;> rw [heq]
        · exact endWriterGrant_of_writer n hgrant hfifo
        · exact writeLeft_of_notWindow rfl rfl rfl hgrant rfl
    · have heq : cut = s := by
        simp only [cut]
        split <;> simp_all
      refine ⟨s.mem.grant, s.dram.cells, heq, ?_, ?_⟩ <;> rw [heq]
      · exact endWriterGrant_of_other n hgrant
      · rfl
  obtain ⟨g, cells, heq, hended, hleft⟩ := hcut
  rw [exec_softReset]
  apply command_becomes hfree
  rw [hended, softReset_eq, hleft]
  clear_value cut
  subst heq
  rfl

end Sys2Proof.Machine
end

section
/-! The writes of settings (R4, R5, R24, R50, R106, R110, R118, R119, R126, R137, R143, R144, R151, R165, R193): what a register
write under the configuration lock does, and one value's range at a time. -/

namespace Sys2Proof.Machine

/-! ## The lock and the range check (R126, R177) -/

/-- A write that a first check refuses while a run is active. -/
theorem locked_refused {s : State} {rest : List (Bool × Status)} (hactive : runActive s = true) :
    firstRefusal ((runActive s, .configLocked) :: rest) = some .configLocked := by
  rw [hactive, firstRefusal_cons_fails]

/-- Outside a run the lock passes. -/
theorem locked_passes {s : State} {rest : List (Bool × Status)} (hidle : runActive s = false) :
    firstRefusal ((runActive s, .configLocked) :: rest) = firstRefusal rest := by
  rw [hidle, firstRefusal_cons_passes]

theorem checkedWrite_accepted {refusal : State → Option Status} {offset : BitVec 7} {f : State → State} {s : State}
    {bad : Bool} (hfree : busFree s = true) (hrefusal : refusal s = firstRefusal [(bad, .badArg)]) (hgood : bad = false) :
    Claims.Becomes (registerAccess refusal offset f s) (f s) := by
  subst hgood
  exact registerAccess_becomes_of_passes hfree hrefusal

/-- The same, for a state that the write's effect is known to be. -/
theorem checkedWrite_takes {refusal : State → Option Status} {offset : BitVec 7} {f : State → State} {s t : State}
    {bad : Bool} (hfree : busFree s = true) (hrefusal : refusal s = firstRefusal [(bad, .badArg)]) (hgood : bad = false)
    (heffect : f s = t) : Claims.Becomes (registerAccess refusal offset f s) t :=
  heffect ▸ checkedWrite_accepted hfree hrefusal hgood

theorem checkedWrite_refused {refusal : State → Option Status} {offset : BitVec 7} {f : State → State} {s : State}
    {bad : Bool} (hfree : busFree s = true) (hrefusal : refusal s = firstRefusal [(bad, .badArg)]) (hbad : bad = true) :
    Claims.Becomes (registerAccess refusal offset f s) (Claims.refusedAccess .badArg offset s) := by
  subst hbad
  exact registerAccess_becomes_of_refused hfree hrefusal

/-- Outside a run a write under the lock has the check of its value alone. -/
theorem lockedCheck_of_idle {bad : Bool} {s : State} (hidle : runActive s = false) :
    lockedCheck bad s = firstRefusal [(bad, .badArg)] := locked_passes hidle

theorem runActive_of_state {s : State} (hstate : s.run.state = .armed ∨ s.run.state = .running ∨
    s.run.state = .waiting ∨ s.run.state = .paused ∨ s.run.state = .stopping) : runActive s = true := by
  unfold runActive
  obtain h | h | h | h | h := hstate <;> rw [h]

/-- Settles O30: every row that writes a register of Table 6-4 judges the lock first. -/
theorem configurationLockRefusesWritesDuringARun : Obligations.ConfigurationLockRefusesWritesDuringARun := by
  intro s v hfree hstate
  have hactive := runActive_of_state hstate
  have hlocked : ∀ {refusal : State → Option Status} {offset : BitVec 7} {f : State → State},
      refusal s = some .configLocked →
      Claims.Becomes (registerAccess refusal offset f s) (Claims.refusedAccess .configLocked offset s) :=
    fun hrefused => registerAccess_becomes_of_refused hfree hrefused
  simp only [Claims.lockedWrites, List.forall_mem_cons]
  refine ⟨?_, ?_, ?_, ?_, ?_, ?_, ?_, ?_, ?_, ?_, ?_, ?_, ?_, ?_, ?_, ?_, ?_, ?_, ?_, ?_, fun _ hnone => nomatch hnone⟩
  all_goals exact hlocked (locked_refused hactive)

/-! ## PORTCFG (R4, R5) -/

theorem widthOfCode_eq (c : BitVec 2) : Width.ofCode c = [Width.w1, .w4, .w8, .w16].getD c.toNat .w1 := by
  revert c
  decide

theorem parkOfCode_eq (c : BitVec 2) : Park.ofCode c = [Park.hiz, .low, .high, .hold].getD c.toNat .hiz := by
  revert c
  decide

theorem kindOfCode_eq (c : BitVec 3) :
    CompareKind.ofCode c =
      if 5 ≤ c.toNat then none else some ([CompareKind.eq, .ule, .uge, .sle, .sge].getD c.toNat .eq) := by
  revert c
  decide

/-- A mask of the bits from `k` up leaves 0 of the values below `2 ^ k` alone. -/
theorem and_highMask_eq_zero_iff {m : HW} {k : Nat} (hmask : ∀ i < 16, m.getLsbD i = decide (k ≤ i)) (v : HW) :
    v &&& m = 0 ↔ v.toNat < 2 ^ k := by
  constructor
  · intro hzero
    refine Nat.lt_pow_two_of_testBit _ fun i hi => ?_
    by_cases hlt : i < 16
    · have hbit := congrArg (BitVec.getLsbD · i) hzero
      change (v &&& m).getLsbD i = (0#16).getLsbD i at hbit
      rwa [BitVec.getLsbD_and, hmask i hlt, decide_eq_true hi, Bool.and_true, BitVec.getLsbD_zero] at hbit
    · exact BitVec.getLsbD_of_ge v i (Nat.le_of_not_lt hlt)
  · intro hlt
    refine BitVec.eq_of_getLsbD_eq fun i hi => ?_
    change _ = (0#16).getLsbD i
    rw [BitVec.getLsbD_and, hmask i hi, BitVec.getLsbD_zero]
    by_cases hk : k ≤ i
    · have hbit : v.getLsbD i = false := Nat.testBit_lt_two_pow (Nat.lt_of_lt_of_le hlt (Nat.pow_le_pow_right (by decide) hk))
      rw [hbit, Bool.false_and]
    · rw [decide_eq_false hk, Bool.and_false]

/-- PORTCFG's value is no record for a reserved bit, a KIND without a value or a magnitude kind at width 1. -/
theorem parsePortCfg_eq (v : HW) {width : Width} {kind : CompareKind}
    (hwidth : [Width.w1, .w4, .w8, .w16].getD (v.extractLsb' 1 2).toNat .w1 = width)
    (hcode : [CompareKind.eq, .ule, .uge, .sle, .sge].getD (v.extractLsb' 3 3).toNat .eq = kind) :
    parsePortCfg v =
      if 256 ≤ v.toNat ∨ 5 ≤ (v.extractLsb' 3 3).toNat ∨ (kind ≠ .eq ∧ width = .w1) then none
      else some ⟨v.getLsbD 0, width, kind, [Park.hiz, .low, .high, .hold].getD (v.extractLsb' 6 2).toNat .hiz⟩ := by
  have hhigh : v &&& 0xFF00#16 = 0 ↔ v.toNat < 256 := and_highMask_eq_zero_iff (k := 8) (by decide) v
  unfold parsePortCfg
  rw [kindOfCode_eq, widthOfCode_eq, parkOfCode_eq, hwidth, hcode]
  by_cases hkind : 5 ≤ (v.extractLsb' 3 3).toNat
  · rw [if_pos hkind, if_pos (.inr (.inl hkind))]
  rw [if_neg hkind]
  change (if v &&& 0xFF00#16 ≠ 0 then none else if kind.isMagnitude && width == .w1 then none else some _) = _
  by_cases hreserved : 256 ≤ v.toNat
  · rw [if_pos (by rw [ne_eq, hhigh]; omega), if_pos (.inl hreserved)]
  rw [if_neg (by rw [ne_eq, hhigh]; omega)]
  have hmagnitude : (kind.isMagnitude && width == .w1) = true ↔ kind ≠ .eq ∧ width = .w1 := by
    simp [CompareKind.isMagnitude]
  by_cases hnarrow : kind ≠ .eq ∧ width = .w1
  · rw [if_pos (hmagnitude.mpr hnarrow), if_pos (.inr (.inr hnarrow))]
  · rw [if_neg (mt hmagnitude.mp hnarrow), if_neg (by tauto)]

/-- The pins of a port whose record is written, by the record's state and park. -/
theorem setPortCfg_eq (p : Port) (cfg : PortCfg) (s : State) :
    setPortCfg p cfg s =
      { s with
        ports.cfg := s.ports.cfg.set p cfg
        ports.pins := s.ports.pins.set p
          (if cfg.enabled = false then ⟨0, s.ports.pins[p].level⟩
           else match cfg.park with
             | .hiz => ⟨0, s.ports.pins[p].level⟩
             | .low => ⟨0xFFFF#16, 0⟩
             | .high => ⟨0xFFFF#16, 0xFFFF#16⟩
             | .hold => s.ports.pins[p]) } := by
  unfold setPortCfg
  cases cfg.enabled <;> rfl

/-- Settles O31, by what a written value of PORTCFG means. -/
theorem portcfgWriteSetsTheRecordAndThePins : Obligations.PortcfgWriteSetsTheRecordAndThePins := by
  intro s p v hfree hidle width kind park bad pins
  have hvalue := parsePortCfg_eq v (width := width) (kind := kind) rfl rfl
  have hcheck := lockedCheck_of_idle (bad := (parsePortCfg v).isNone) hidle
  refine ⟨fun hbad => ?_, fun hgood => ?_⟩
  · exact checkedWrite_refused hfree hcheck (by rw [hvalue, if_pos hbad]; rfl)
  · rw [if_neg hgood] at hvalue
    exact checkedWrite_takes hfree hcheck (by rw [hvalue]; rfl) (by rw [hvalue]; exact setPortCfg_eq p _ s)

end Sys2Proof.Machine
end

section
/-! The settings of run control, the log's registers, the trigger lines' and the zones' (R24, R50, R106, R110, R118, R119,
R137, R143, R144, R151, R161, R162). -/

namespace Sys2Proof.Machine

/-- A register write whose one check is `¬ good`. -/
theorem checkedWrite_ite {refusal : State → Option Status} {offset : BitVec 7} {f : State → State} {s t : State}
    {bad : Bool} {good : Prop} [Decidable good] (hfree : busFree s = true)
    (hrefusal : refusal s = firstRefusal [(bad, .badArg)]) (hbad : bad = true ↔ ¬ good) (heffect : good → f s = t) :
    Claims.Becomes (registerAccess refusal offset f s) (if good then t else Claims.refusedAccess .badArg offset s) := by
  by_cases hgood : good
  · rw [if_pos hgood]
    exact checkedWrite_takes hfree hrefusal (Bool.eq_false_iff.mpr fun h => hbad.mp h hgood) (heffect hgood)
  · rw [if_neg hgood]
    exact checkedWrite_refused hfree hrefusal (hbad.mpr hgood)

/-- An unlocked, unchecked write. -/
theorem freeWrite_takes {refusal : State → Option Status} {offset : BitVec 7} {f : State → State} {s : State}
    (hfree : busFree s = true) (hrefusal : refusal s = none) : Claims.Becomes (registerAccess refusal offset f s) (f s) :=
  registerAccess_becomes_of_passes hfree hrefusal

theorem lockedCheck_false_of_idle {s : State} (hidle : runActive s = false) : lockedCheck false s = none := by
  rw [lockedCheck_of_idle hidle]
  rfl

theorem exec_tsetselWrite (v : HW) (s : State) : exec (.tsetselWrite v) s = execTsetselWrite v s := rfl

theorem exec_breakpointWrite (n : Fin 2) (r : BpReg) (v : HW) (s : State) :
    exec (.breakpointWrite n r v) s = execBreakpointWrite n r v s := rfl

theorem exec_logrpWrite (high : HW) (s : State) : exec (.logrpWrite high) s = execLogrpWrite high s := rfl

/-! ## Timing sets, run control's settings, breakpoints -/

theorem timingSetWritesReplaceTheSelectedSet : Claims.TimingSetWritesReplaceTheSelectedSet := by
  intro s v hfree
  refine ⟨?_, fun hbig => ?_, fun hidle => ?_⟩
  · rintro k rfl
    rw [exec_tsetselWrite]
    have hsel : ((BitVec.ofNat 16 k.val).extractLsb' 0 3).toFin = k := by
      revert k
      decide
    exact checkedWrite_takes hfree (by rfl) (by revert k; decide) (by rw [hsel])
  · rw [exec_tsetselWrite]
    exact checkedWrite_refused hfree (by rfl) (decide_eq_true hbig)
  · have hpasses := lockedCheck_false_of_idle hidle
    exact ⟨freeWrite_takes hfree hpasses, freeWrite_takes hfree hpasses, freeWrite_takes hfree hpasses⟩

theorem runSettingWritesStoreValuesInRange : Claims.RunSettingWritesStoreValuesInRange := by
  intro s v hfree hidle
  have hcheck : ∀ bad, lockedCheck bad s = firstRefusal [(bad, .badArg)] := fun _ => lockedCheck_of_idle hidle
  have hpasses := lockedCheck_false_of_idle hidle
  refine ⟨?_, fun hbig => checkedWrite_refused hfree (hcheck _) (decide_eq_true hbig), ?_,
    fun hbig => checkedWrite_refused hfree (hcheck _) (decide_eq_true hbig), freeWrite_takes hfree hpasses,
    fun hsmall => ?_, fun hbig => checkedWrite_refused hfree (hcheck _) (decide_eq_true hbig),
    freeWrite_takes hfree hpasses⟩
  · rintro n rfl
    have hlow : (n.setWidth 16).extractLsb' 0 7 = n := BitVec.eq_of_toNat_eq (by simp; omega)
    exact checkedWrite_takes hfree (hcheck _) (by simp; omega) (by rw [hlow])
  · rintro j rfl
    have hlow : ((BitVec.ofNat 16 j.val).extractLsb' 0 2).toFin = j := by
      revert j
      decide
    exact checkedWrite_takes hfree (hcheck _) (by revert j; decide) (by rw [hlow])
  · have hvalue : v = 0#16 ∨ v = 1#16 := by
      rcases (by omega : v.toNat = 0 ∨ v.toNat = 1) with h | h
      · exact .inl (BitVec.eq_of_toNat_eq h)
      · exact .inr (BitVec.eq_of_toNat_eq h)
    have hbit : v.getLsbD 0 = (v == 1) := by
      obtain rfl | rfl := hvalue <;> decide
    exact checkedWrite_takes hfree (hcheck _) (decide_eq_false (by omega)) (by rw [hbit])

theorem breakpointWritesStoreValuesInRange : Claims.BreakpointWritesStoreValuesInRange := by
  intro s n v hfree b put refused
  simp only [exec_breakpointWrite]
  refine ⟨checkedWrite_ite hfree (by rfl) ?_ fun _ => (by rfl), checkedWrite_ite hfree (by rfl) ?_ fun _ => ?_,
    checkedWrite_ite hfree (by rfl) ?_ fun _ => (by rfl), checkedWrite_ite hfree (by rfl) ?_ fun _ => ?_⟩
  · simp [bpBad]
  · simp [bpBad]
  · change (_ : State) = { s with run.bp := s.run.bp.set n { b with seg := v.setWidth 6 } }
    rw [BitVec.setWidth_eq_extractLsb' (by decide)]
    rfl
  · have hlast : v = 65535#16 ↔ v.toNat = 65535 := ⟨fun h => by rw [h]; rfl, fun h => BitVec.eq_of_toNat_eq h⟩
    have hlt := v.isLt
    simp [bpBad, hlast]
    omega
  · simp [bpBad]
  · change (_ : State) = { s with run.bp := s.run.bp.set n { b with iter := v.setWidth 12 } }
    rw [BitVec.setWidth_eq_extractLsb' (by decide)]
    rfl

/-- Settles O32, register by register. -/
theorem settingWritesReplaceTheirRegister : Obligations.SettingWritesReplaceTheirRegister :=
  ⟨timingSetWritesReplaceTheSelectedSet, runSettingWritesStoreValuesInRange, breakpointWritesStoreValuesInRange⟩

/-! ## The log's registers -/

/-- Settles O33, by whether a run is active. -/
theorem logResetEmptiesTheRing : Obligations.LogResetEmptiesTheRing := by
  intro s hfree
  refine ⟨fun hidle => ?_, fun hactive => ?_⟩
  · exact command_becomes_of_passes (refusal := fun s => if runActive s then some .wrongState else none) hfree
      (if_neg (Bool.eq_false_iff.mp hidle))
  · exact command_becomes_of_refused (refusal := fun s => if runActive s then some .wrongState else none) hfree
      (if_pos hactive)

/-- The joined value of a pair is low halfword plus 65536 times high. -/
theorem toNat_joined (s : State) (p : Pair) (high : HW) :
    (joined s p high).toNat = Claims.word s.win.holdings[pairIndex p] high := by
  unfold joined Claims.word
  rw [BitVec.toNat_append, Nat.shiftLeft_eq, Nat.mul_comm, ← Nat.two_pow_add_eq_or_of_lt (BitVec.isLt _)]
  omega

/-- A value in range, narrowed. -/
theorem setWidth_joined (s : State) (p : Pair) (high : HW) (w : Nat) :
    (joined s p high).setWidth w = BitVec.ofNat w (Claims.word s.win.holdings[pairIndex p] high) := by
  refine BitVec.eq_of_toNat_eq ?_
  rw [BitVec.toNat_setWidth, toNat_joined, BitVec.toNat_ofNat]

theorem ofNat_eq_iff_of_lt {w n : Nat} {x : BitVec w} (hlt : n < 2 ^ w) : BitVec.ofNat w n = x ↔ n = x.toNat := by
  rw [← BitVec.toNat_inj, BitVec.toNat_ofNat, Nat.mod_eq_of_lt hlt]

theorem logRegisterWritesPlaceTheRing : Claims.LogRegisterWritesPlaceTheRing := by
  intro s high hfree hidle base size level
  have hcheck : ∀ bad, lockedCheck bad s = firstRefusal [(bad, .badArg)] := fun _ => lockedCheck_of_idle hidle
  refine ⟨?_, ?_, ?_⟩
  · by_cases hbig : 2 ^ 25 ≤ base
    · rw [if_pos hbig]
      exact checkedWrite_refused hfree (hcheck _) (decide_eq_true (by rwa [toNat_joined]))
    · rw [if_neg hbig]
      refine checkedWrite_takes hfree (hcheck _) (decide_eq_false (by rwa [toNat_joined])) ?_
      simp only [setWidth_joined]
      exact if_congr (ofNat_eq_iff_of_lt (by omega)) rfl rfl
  · have hbad : logsizeBad (joined s .logsize high) = true ↔ size < 64 ∨ 16777216 < size := by
      simp only [logsizeBad, toNat_joined, Bool.or_eq_true, decide_eq_true_eq, size]
    by_cases hout : size < 64 ∨ 16777216 < size
    · rw [if_pos hout]
      exact checkedWrite_refused hfree (hcheck _) (hbad.mpr hout)
    · rw [if_neg hout]
      refine checkedWrite_takes hfree (hcheck _) (Bool.eq_false_iff.mpr (mt hbad.mp hout)) ?_
      simp only [setWidth_joined]
      exact if_congr (ofNat_eq_iff_of_lt (by omega)) rfl rfl
  · by_cases hbig : 16777215 < level
    · rw [if_pos hbig]
      exact checkedWrite_refused hfree (hcheck _) (decide_eq_true (by rwa [toNat_joined]))
    · rw [if_neg hbig]
      refine checkedWrite_takes hfree (hcheck _) (decide_eq_false (by rw [toNat_joined]; omega)) ?_
      simp only [setWidth_joined]
      rfl

/-- The judgement of LOGRP with distances as remainders of integers. -/
theorem logrpBad_iff {s : State} (hring : RingInRange s) (v : Nat) :
    logrpBad s v = true ↔ ¬ ((v : Int) < s.log.size.toNat ∧
      ((v : Int) - s.log.rp.toNat) % s.log.size.toNat ≤ ((s.log.wp.toNat : Int) - s.log.rp.toNat) % s.log.size.toNat) := by
  have hrp := hring.2.2.2
  have hadvance : (((v + s.log.size.toNat - s.log.rp.toNat) % s.log.size.toNat : Nat) : Int) =
      ((v : Int) - s.log.rp.toNat) % s.log.size.toNat := by
    rw [Int.natCast_mod, Nat.cast_sub (by omega), Nat.cast_add, add_sub_right_comm, Int.add_emod_right]
  rw [← occupancy_eq_emod hring, ← hadvance, logrpBad, Bool.or_eq_true, decide_eq_true_eq, decide_eq_true_eq]
  omega

theorem logrpWriteReleasesTheRing : Claims.LogrpWriteReleasesTheRing := by
  intro s high hfree hring v size advance occupied
  rw [exec_logrpWrite]
  refine checkedWrite_ite hfree (by rfl) ?_ fun _ => ?_
  · rw [toNat_joined]
    exact logrpBad_iff hring v
  · rw [setWidth_joined]

/-- Settles O34. -/
theorem logRegisterWritesFollowTheirRules : Obligations.LogRegisterWritesFollowTheirRules :=
  ⟨logRegisterWritesPlaceTheRing, logrpWriteReleasesTheRing⟩

end Sys2Proof.Machine
end

section
/-! The writes of TRGCFG and of the zone registers, and the memory controller's own rows (R151, R161 to R166, R171). -/

namespace Sys2Proof.Machine

/-- An event that occurs, for a state that its effect is known to be. -/
theorem event_becomes {occurs : Bool} {f : State → State} {s t : State} (hoccurs : occurs = true) (heffect : f s = t) :
    Claims.Becomes (eventStep occurs f s) t := by
  subst hoccurs heffect
  rfl

/-! ## TRGCFG -/

theorem modeOfCode_eq (c : BitVec 2) :
    TrgMode.ofCode c = [TrgMode.input, .outMark, .outRun, .outFail].getD c.toNat .input := by
  revert c
  decide

theorem edgeOfCode_eq (c : BitVec 2) :
    TrgEdge.ofCode c = if c.toNat = 3 then none else some ([TrgEdge.rise, .fall, .both].getD c.toNat .rise) := by
  revert c
  decide

/-- The line that TRGCFG's fields of codes 0 to 2 describe. -/
def writtenLine (v : HW) (j : Line) : TrgLine :=
  ⟨[TrgMode.input, .outMark, .outRun, .outFail].getD (v.extractLsb' (4 * j.val) 2).toNat .input,
   [TrgEdge.rise, .fall, .both].getD (v.extractLsb' (4 * j.val + 2) 2).toNat .rise⟩

theorem parseTrgLine_eq (v : HW) (j : Line) :
    parseTrgLine v j = if (v.extractLsb' (4 * j.val + 2) 2).toNat = 3 then none else some (writtenLine v j) := by
  unfold parseTrgLine
  rw [edgeOfCode_eq, modeOfCode_eq]
  by_cases hedge : (v.extractLsb' (4 * j.val + 2) 2).toNat = 3
  · rw [if_pos hedge, if_pos hedge]
  · rw [if_neg hedge, if_neg hedge]
    rfl

theorem parseTrgLine_isNone {v : HW} {j : Line} (hedge : (v.extractLsb' (4 * j.val + 2) 2).toNat = 3) :
    parseTrgLine v j = none := by rw [parseTrgLine_eq, if_pos hedge]

theorem parseTrgLine_some {v : HW} {j : Line} (hedge : (v.extractLsb' (4 * j.val + 2) 2).toNat ≠ 3) :
    parseTrgLine v j = some (writtenLine v j) := by rw [parseTrgLine_eq, if_neg hedge]

/-- One line with EDGE 3 spoils the whole value. -/
theorem parseTrgCfg_none {v : HW} {j : Line} (hedge : parseTrgLine v j = none) : parseTrgCfg v = none := by
  unfold parseTrgCfg
  split
  case h_1 h0 h1 h2 h3 =>
    match j, hedge with
    | 0, h => rw [h] at h0; cases h0
    | 1, h => rw [h] at h1; cases h1
    | 2, h => rw [h] at h2; cases h2
    | 3, h => rw [h] at h3; cases h3
  case h_2 => rfl

theorem parseTrgCfg_some {v : HW} (hedges : ∀ j : Line, (v.extractLsb' (4 * j.val + 2) 2).toNat ≠ 3) :
    parseTrgCfg v = some (Vector.ofFn (writtenLine v)) := by
  rw [← vec4_eq_ofFn]
  unfold parseTrgCfg
  simp only [parseTrgLine_some (hedges _)]
  rfl

/-- Settles O35, by whether some line's EDGE is 3. -/
theorem trgcfgWriteSetsEveryLine : Obligations.TrgcfgWriteSetsEveryLine := by
  intro s v hfree hidle edge mode
  have hcheck := lockedCheck_of_idle (bad := (parseTrgCfg v).isNone) hidle
  refine ⟨fun ⟨j, hj⟩ => ?_, fun hedges => ?_⟩
  · exact checkedWrite_refused hfree hcheck (by rw [parseTrgCfg_none (parseTrgLine_isNone hj)]; rfl)
  · have hvalue := parseTrgCfg_some hedges
    exact checkedWrite_takes hfree hcheck (by rw [hvalue]; rfl) (by rw [hvalue]; rfl)

/-! ## Zone registers -/

theorem exec_zoneselWrite (v : HW) (s : State) : exec (.zoneselWrite v) s = execZoneselWrite v s := rfl

theorem dramSize_eq (s : State) : dramSize s = 2 ^ (22 + s.mem.msize.toNat) := (pow_add 2 22 _).symm

theorem overlaps_eq_false_iff (z w : Zone) :
    z.overlaps w = false ↔ z.limit.toNat < w.base.toNat ∨ w.limit.toNat < z.base.toNat := by
  simp only [Zone.overlaps, Bool.and_eq_false_iff, decide_eq_false_iff_not]
  omega

/-- The check of a descriptor is that it is permitted. -/
theorem zoneBad_eq_false_iff (s : State) (n : Fin 8) (z : Zone) :
    zoneBad s n z = false ↔ Claims.zonePermitted s n z := by
  constructor
  · intro hgood hen
    obtain ⟨horder, hsize, hshared⟩ := of_zoneBad_false hgood hen
    exact ⟨horder, dramSize_eq s ▸ hsize, fun j hj hjen => (overlaps_eq_false_iff _ _).mp (hshared j hj hjen)⟩
  · intro hpermitted
    cases hen : z.enabled with
    | false => simp [zoneBad, hen]
    | true =>
      obtain ⟨horder, hsize, hshared⟩ := hpermitted hen
      rw [← dramSize_eq] at hsize
      simp only [zoneBad, hen, Bool.true_and, Bool.or_eq_false_iff, decide_eq_false_iff_not, Nat.not_lt, Nat.not_le]
      refine ⟨⟨horder, hsize⟩, List.any_eq_false.mpr fun j _ => ?_⟩
      rw [Bool.and_eq_true, Bool.and_eq_true, bne_iff_ne]
      rintro ⟨⟨hj, hjen⟩, hoverlap⟩
      rw [(overlaps_eq_false_iff _ _).mpr (hshared j hj hjen)] at hoverlap
      cases hoverlap

/-- What a write of a zone register does outside a run, given the descriptor it would produce. -/
def ZoneWriteJudged (s : State) (r : ZoneReg) (v : HW) (o : BitVec 7) (inRange : Prop) (z : Zone) : Prop :=
  (s.win.posted ≠ [] → Claims.Becomes (exec (.zoneDescriptorWrite r v) s) (Claims.refusedAccess .wbufPending o s)) ∧
  (s.win.posted = [] → s.win.memop ≠ .idle →
    Claims.Becomes (exec (.zoneDescriptorWrite r v) s) (Claims.refusedAccess .memopBusy o s)) ∧
  (s.win.posted = [] → s.win.memop = .idle → ¬ (inRange ∧ Claims.zonePermitted s s.mem.zonesel z) →
    Claims.Becomes (exec (.zoneDescriptorWrite r v) s) (Claims.refusedAccess .badArg o s)) ∧
  (s.win.posted = [] → s.win.memop = .idle → inRange → Claims.zonePermitted s s.mem.zonesel z →
    Claims.Becomes (exec (.zoneDescriptorWrite r v) s) { s with mem.zones := s.mem.zones.set s.mem.zonesel z })

theorem memopBusy_iff (s : State) : memopBusy s = true ↔ s.win.memop ≠ .idle := bne_iff_ne

/-- The four checks of a zone register's write, in order. -/
theorem zoneWriteJudged {s : State} {r : ZoneReg} {v : HW} {inRange : Prop} {z : Zone}
    (hfree : busFree s = true) (hidle : runActive s = false)
    (hin : inRange → zoneWritten s.mem.zones[s.mem.zonesel] r (zoneValue s r v) = some z)
    (hout : ¬ inRange → zoneWritten s.mem.zones[s.mem.zonesel] r (zoneValue s r v) = none) :
    ZoneWriteJudged s r v (zoneOffset r) inRange z := by
  have hrefusal : zoneRefusal r v s =
      firstRefusal [(s.win.posted != [], .wbufPending), (memopBusy s, .memopBusy), (zoneWriteBad s r v, .badArg)] :=
    locked_passes hidle
  have hbad : zoneWriteBad s r v = false ↔ inRange ∧ Claims.zonePermitted s s.mem.zonesel z := by
    unfold zoneWriteBad
    by_cases h : inRange
    · simp only [hin h, zoneBad_eq_false_iff, h, true_and]
    · simp only [hout h, h, false_and, Bool.true_eq_false]
  refine ⟨fun hposted => ?_, fun hposted hbusy => ?_, fun hposted hmemop hnot => ?_, fun hposted hmemop h hpermitted => ?_⟩
  · have hfails : (s.win.posted != []) = true := bne_iff_ne.mpr hposted
    exact registerAccess_becomes_of_refused hfree (by rw [hrefusal, hfails, firstRefusal_cons_fails])
  · have hbusy := (memopBusy_iff s).mpr hbusy
    exact registerAccess_becomes_of_refused hfree
      (by rw [hrefusal, hposted, bne_self_eq_false, firstRefusal_cons_passes, hbusy, firstRefusal_cons_fails])
  · have hfails := Bool.not_eq_false _ ▸ mt hbad.mp hnot
    exact registerAccess_becomes_of_refused hfree
      (by rw [hrefusal, hposted, bne_self_eq_false, firstRefusal_cons_passes, memopBusy, hmemop, bne_self_eq_false,
            firstRefusal_cons_passes, hfails, firstRefusal_cons_fails])
  · have hpasses := hbad.mpr ⟨h, hpermitted⟩
    have hbecomes := registerAccess_becomes_of_passes (refusal := zoneRefusal r v) (offset := zoneOffset r) (f := fun s =>
        match zoneWritten s.mem.zones[s.mem.zonesel] r (zoneValue s r v) with
        | some z => { s with mem.zones := s.mem.zones.set s.mem.zonesel z }
        | none => s) hfree
      (by rw [hrefusal, hposted, bne_self_eq_false, firstRefusal_cons_passes, memopBusy, hmemop, bne_self_eq_false,
            firstRefusal_cons_passes, hpasses, firstRefusal_cons_passes, firstRefusal_nil])
    simp only [hin h] at hbecomes
    exact hbecomes

theorem zoneKindOfCode_eq (c : BitVec 2) :
    ZoneKind.ofCode c = if c = 3 then none else some ([ZoneKind.vector, .log, .data].getD c.toNat .vector) := by
  revert c
  decide

/-- Settles O37: each of the three registers by what it writes. -/
theorem zoneWritesKeepPermittedDescriptors : Obligations.ZoneWritesKeepPermittedDescriptors := by
  intro s v hfree
  refine ⟨?_, fun hbig => ?_, fun hidle => ⟨?_, ?_, ?_⟩⟩
  · rintro k rfl
    rw [exec_zoneselWrite]
    have hsel : ((BitVec.ofNat 16 k.val).extractLsb' 0 3).toFin = k := by
      revert k
      decide
    exact checkedWrite_takes hfree (by rfl) (by revert k; decide) (by rw [hsel])
  · rw [exec_zoneselWrite]
    exact checkedWrite_refused hfree (by rfl) (decide_eq_true hbig)
  · refine zoneWriteJudged (r := .zbase) hfree hidle (fun hin => ?_) (fun hout => ?_)
    · rw [zoneWritten, zoneValue, toNat_joined, if_pos hin, setWidth_joined]
    · rw [zoneWritten, zoneValue, toNat_joined, if_neg hout]
  · refine zoneWriteJudged (r := .zlimit) hfree hidle (fun hin => ?_) (fun hout => ?_)
    · rw [zoneWritten, zoneValue, toNat_joined, if_pos hin, setWidth_joined]
    · rw [zoneWritten, zoneValue, toNat_joined, if_neg hout]
  · have hnat : (v.setWidth 32).toNat = v.toNat := by simp; omega
    have hcode : (v.setWidth 32).extractLsb' 0 2 = v.extractLsb' 0 2 := BitVec.eq_of_toNat_eq (by simp [hnat])
    refine zoneWriteJudged (r := .zattr) hfree hidle (fun hin => ?_) (fun hout => ?_)
    · rw [zoneWritten, zoneValue, hnat, if_pos hin.1, hcode, zoneKindOfCode_eq, if_neg hin.2]
      simp
    · rw [zoneWritten, zoneValue, hnat, hcode, zoneKindOfCode_eq]
      by_cases hsmall : v.toNat < 16
      · rw [if_pos hsmall, if_pos (by tauto)]
        rfl
      · rw [if_neg hsmall]

/-! ## The memory controller's rows -/

theorem exec_refreshTimerExpiry (s : State) : exec .refreshTimerExpiry s = execRefreshTimerExpiry s := rfl
theorem exec_refreshCompletion (s : State) : exec .refreshCompletion s = execRefreshCompletion s := rfl
theorem exec_memInitEnd (s : State) : exec .memInitEnd s = execMemInitEnd s := rfl

theorem memoryControllerRowsFollowTheirRules : Claims.MemoryControllerRowsFollowTheirRules := by
  intro s v
  refine ⟨fun hfree hidle hin => ?_, fun hfree hidle hout => ?_, fun hfree => ?_, fun hready howed => ?_,
    fun hgrant => ?_, fun hready hreset => ?_⟩
  · exact checkedWrite_accepted hfree (lockedCheck_of_idle hidle) (decide_eq_false (by omega))
  · exact checkedWrite_refused hfree (lockedCheck_of_idle hidle) (decide_eq_true hout)
  · have hbecomes : Claims.Becomes (exec (.memstatWrite v) s)
        (if v.getLsbD 7 then { s with mem.refmiss := false } else s) :=
      freeWrite_takes (refusal := fun _ => none) hfree rfl
    cases hbit : v.getLsbD 7 with
    | false =>
      rw [hbit] at hbecomes
      rw [Bool.not_false, Bool.and_true]
      exact hbecomes
    | true =>
      rw [hbit] at hbecomes
      rw [Bool.not_true, Bool.and_false]
      exact hbecomes
  · rw [exec_refreshTimerExpiry]
    exact event_becomes hready (if_pos howed)
  · rw [exec_refreshCompletion]
    exact event_becomes (by rw [hgrant]; rfl) rfl
  · rw [exec_memInitEnd]
    exact event_becomes (by rw [hready, hreset]; rfl) (raise_of_reset_high _ hreset)

theorem missedRefreshUnfixesUnwrittenHalfwords : Claims.MissedRefreshUnfixesUnwrittenHalfwords := by
  intro s hready howed t
  rw [exec_refreshTimerExpiry]
  refine ⟨event_becomes hready ?_, fun u a hdecayed hunwritten => readHalf_decayed hunwritten hdecayed⟩
  change (if s.mem.owed < 8 then _ else raise .refreshMissed t) = _
  rw [if_neg (by omega)]
  cases hreset : s.resetLow with
  | false => exact raise_of_reset_high _ hreset
  | true =>
    have hlow : t.resetLow = true := hreset
    simp [raise, hlow]

/-! ## The zone a range lies in -/

theorem containsRange_iff (z : Zone) (a n : Nat) :
    z.containsRange a n = true ↔ z.enabled = true ∧ z.base.toNat ≤ a ∧ a + n - 1 ≤ z.limit.toNat := by
  simp [Zone.containsRange, and_assoc]

/-- A zone contains the first address of a range it contains. -/
theorem containsRange_first {z : Zone} {a n : Nat} (hn : 0 < n) (h : z.containsRange a n = true) :
    z.containsRange a 1 = true := by
  obtain ⟨hen, hbase, hlimit⟩ := (containsRange_iff _ _ _).mp h
  exact (containsRange_one _ _).mpr ⟨hen, hbase, by omega⟩

/-- The zone found for a range is one of the eight and contains it. -/
theorem rangeZone_some {s : State} {a n : Nat} {z : Zone} (h : rangeZone s a n = some z) :
    ∃ i : Fin 8, z = s.mem.zones[i] ∧ s.mem.zones[i].containsRange a n = true := by
  obtain ⟨i, hi, hz⟩ := Vector.getElem_of_mem (Vector.mem_toList_iff.mp (List.mem_of_find?_eq_some h))
  have hin := List.find?_some h
  exact ⟨⟨i, hi⟩, hz.symm, by subst hz; exact hin⟩

theorem rangeZone_none {s : State} {a n : Nat} (h : ∀ i : Fin 8, s.mem.zones[i].containsRange a n ≠ true) :
    rangeZone s a n = none := by
  rw [Option.eq_none_iff_forall_ne_some]
  intro z hz
  obtain ⟨i, _, hin⟩ := rangeZone_some hz
  exact h i hin

/-- Of disjoint zones the one that contains a range is the one found. -/
theorem rangeZone_eq {s : State} (hdisjoint : ZonesDisjoint s) {a n : Nat} (hn : 0 < n) {i : Fin 8}
    (hin : s.mem.zones[i].containsRange a n = true) : rangeZone s a n = some s.mem.zones[i] := by
  cases hzone : rangeZone s a n with
  | none => exact absurd hin (List.find?_eq_none.mp hzone _ (Vector.mem_toList_iff.mpr (Vector.getElem_mem i.isLt)))
  | some z =>
    obtain ⟨j, rfl, hj⟩ := rangeZone_some hzone
    rw [hdisjoint.unique (containsRange_first hn hj) (containsRange_first hn hin)]

theorem rangesLieInOneEnabledZone : Claims.RangesLieInOneEnabledZone := by
  intro s a n hdisjoint hn holds
  have hholds : ∀ i, holds i ↔ s.mem.zones[i].containsRange a n = true := fun i => by
    rw [containsRange_iff, Nat.add_sub_assoc hn]
  refine ⟨fun i hi => rangeZone_eq hdisjoint hn ((hholds i).mp hi), fun hnone => ?_, fun k => ?_, fun hbeyond => ?_⟩
  · exact rangeZone_none fun i hi => hnone i ((hholds i).mpr hi)
  · unfold rangeInKind
    constructor
    · intro hkind
      cases hzone : rangeZone s a n with
      | none => rw [hzone] at hkind; cases hkind
      | some z =>
        rw [hzone] at hkind
        obtain ⟨i, rfl, hi⟩ := rangeZone_some hzone
        exact ⟨i, (hholds i).mpr hi, beq_iff_eq.mp hkind⟩
    · rintro ⟨i, hi, hkind⟩
      rw [rangeZone_eq hdisjoint hn ((hholds i).mp hi)]
      exact beq_iff_eq.mpr hkind
  · refine rangeZone_none fun i hi => ?_
    obtain ⟨_, _, hlimit⟩ := (containsRange_iff _ _ _).mp hi
    have hmax := s.mem.zones[i].limit.isLt
    omega

/-- Settles O38. -/
theorem memoryControllerFollowsItsRules : Obligations.MemoryControllerFollowsItsRules :=
  ⟨memoryControllerRowsFollowTheirRules, missedRefreshUnfixesUnwrittenHalfwords, rangesLieInOneEnabledZone⟩

end Sys2Proof.Machine
end

section
/-! The event unit's registers, the offsets that no row owns, and the segment commands with the walker's arrival (R40 to R45,
R57 to R62, R117, R177 to R180, R193, R195). -/

namespace Sys2Proof.Machine

/-! ## The event unit -/

theorem exec_evflagWrite (v : HW) (s : State) : exec (.evflagWrite v) s = execEvflagWrite v s := rfl
theorem exec_evenableWrite (v : HW) (s : State) : exec (.evenableWrite v) s = execEvenableWrite v s := rfl
theorem exec_evctlWrite (v : HW) (s : State) : exec (.evctlWrite v) s = execEvctlWrite v s := rfl

theorem aboveFlags_iff (v : HW) : aboveFlags v = true ↔ ¬ v.toNat < 2 ^ 14 := by
  simp [aboveFlags]

/-- Settles O40, register by register. -/
theorem eventUnitWritesFollowTheirRules : Obligations.EventUnitWritesFollowTheirRules := by
  intro s v hfree
  have hlow : v.extractLsb' 0 14 = v.setWidth 14 := (BitVec.setWidth_eq_extractLsb' (by decide)).symm
  rw [exec_evflagWrite, exec_evenableWrite, exec_evctlWrite]
  refine ⟨checkedWrite_ite hfree (by rfl) (aboveFlags_iff v) fun _ => by rw [hlow],
    checkedWrite_ite hfree (by rfl) (aboveFlags_iff v) fun _ => by rw [hlow],
    checkedWrite_ite hfree (by rfl) ?_ fun _ => rfl⟩
  simp

/-! ## Codes and offsets that no row owns -/

theorem exec_illegalCmd (code : HW) (s : State) : exec (.illegalCmd code) s = execIllegalCmd code s := rfl
theorem exec_registerWrite (o : BitVec 7) (v : HW) (s : State) :
    exec (.registerWrite o v) s = execRegisterWrite o v s := rfl

theorem unassignedCodesAndOffsetsAreRefused : Claims.UnassignedCodesAndOffsetsAreRefused := by
  intro s code value o hfree
  refine ⟨fun hcode => ?_, fun howned hoffset => ?_⟩
  · have hunassigned : assignedCodes.contains code = false := by simpa only [Instr.wellFormed, Bool.not_eq_true'] using hcode
    rw [exec_illegalCmd, execIllegalCmd, hunassigned]
    exact command_becomes hfree (refuseCmd_takeCmd code .illegalCmd hfree)
  · have hunowned : ownedOffsets.contains o = false := by simpa only [Instr.wellFormed, Bool.not_eq_true'] using howned
    have hnone : cargAt o = none := dif_neg (by omega)
    rw [exec_registerWrite, execRegisterWrite, hunowned]
    exact registerAccess_becomes_of_refused hfree (by rw [hnone, Option.isNone_none, firstRefusal_cons_fails])

theorem argumentAndStagingWritesStoreAnyHalfword : Claims.ArgumentAndStagingWritesStoreAnyHalfword := by
  refine fun s v hfree => ⟨fun i => ?_, fun i => freeWrite_takes (refusal := fun _ => none) hfree rfl⟩
  have hunowned : ownedOffsets.contains (BitVec.ofNat 7 (5 + i.val)) = false := by
    revert i
    decide
  have hcarg : cargAt (BitVec.ofNat 7 (5 + i.val)) = some i := by
    revert i
    decide
  have hpasses : firstRefusal [((cargAt (BitVec.ofNat 7 (5 + i.val))).isNone, .noReg)] = none := by
    rw [hcarg]
    rfl
  have hbecomes := registerAccess_becomes_of_passes
    (refusal := fun _ => firstRefusal [((cargAt (BitVec.ofNat 7 (5 + i.val))).isNone, .noReg)])
    (offset := BitVec.ofNat 7 (5 + i.val))
    (f := fun s => match cargAt (BitVec.ofNat 7 (5 + i.val)) with
      | some i => { s with win.carg := s.win.carg.set i v }
      | none => s) hfree hpasses
  rw [exec_registerWrite, execRegisterWrite, hunowned]
  simp only [hcarg] at hbecomes ⊢
  exact hbecomes

/-- Settles O29. -/
theorem registerWritesOutsideTheOwnedOffsets : Obligations.RegisterWritesOutsideTheOwnedOffsets :=
  ⟨unassignedCodesAndOffsetsAreRefused, argumentAndStagingWritesStoreAnyHalfword⟩

/-! ## The walker's arrival (R57 to R62) -/

theorem segBase_eq (e : SegImage) : segBase e = Claims.base e := by
  have hlow := e[0].isLt
  unfold segBase Claims.base Claims.word
  rw [BitVec.toNat_append, Nat.shiftLeft_eq, Nat.mul_comm, ← Nat.two_pow_add_eq_or_of_lt (BitVec.isLt _)]
  simp only [BitVec.toNat_setWidth]
  rw [Nat.mod_eq_of_lt (Nat.lt_of_lt_of_le (BitVec.isLt _) (by decide))]
  omega

/-- After the entry check and the opening of a loop come the records from BASE, or the WAIT item. -/
theorem afterArrival_eq (e : SegImage) (s : State) :
    afterArrival e s =
      if e[6].extractLsb' 4 2 = 0 then { s with walker.next := .fetch, walker.fetchAddr := Claims.base e }
      else { s with walker.next := .pushWait } := by
  rw [← segBase_eq]
  rfl

theorem arrivalIsTakenWholeOrStalls : Claims.ArrivalIsTakenWholeOrStalls := by
  intro s i lb
  change (if (s.seg.entries[i])[6].getLsbD 0 = true then
      (if malformed s s.seg.entries[i] = true then _
       else if ((s.seg.entries[i])[6].getLsbD 2 && !lb) = true then (if s.walker.stack.length < 4 then _ else _)
       else afterArrival _ _) else _) =
    (if (s.seg.entries[i])[6].getLsbD 0 = false then _
     else if malformed s s.seg.entries[i] = true then _
     else if (s.seg.entries[i])[6].getLsbD 2 = false ∨ lb = true then _
     else if s.walker.stack.length < 4 then _ else _)
  by_cases hready : (s.seg.entries[i])[6].getLsbD 0 = true
  case neg => rw [if_neg hready, if_pos (Bool.not_eq_true _ ▸ hready)]
  rw [if_pos hready, if_neg (ne_false_of_eq_true hready)]
  by_cases hmalformed : malformed s s.seg.entries[i] = true
  · rw [if_pos hmalformed, if_pos hmalformed]
    rfl
  rw [if_neg hmalformed, if_neg hmalformed]
  have hopens : ((s.seg.entries[i])[6].getLsbD 2 && !lb) = true ↔ ¬ ((s.seg.entries[i])[6].getLsbD 2 = false ∨ lb = true) := by
    cases (s.seg.entries[i])[6].getLsbD 2 <;> cases lb <;> decide
  by_cases honward : (s.seg.entries[i])[6].getLsbD 2 = false ∨ lb = true
  · rw [if_neg fun h => hopens.mp h honward, if_pos honward]
    exact afterArrival_eq _ _
  rw [if_pos (hopens.mpr honward), if_neg honward]
  by_cases hroom : s.walker.stack.length < 4
  · rw [if_pos hroom, if_pos hroom]
    exact afterArrival_eq _ _
  · rw [if_neg hroom, if_neg hroom]
    cases s.walker.stack <;> rfl

/-! ## Readying an entry (R41, R43, R58, R117) -/

theorem readyingThePendingEntryResumesTheWalker : Claims.ReadyingThePendingEntryResumesTheWalker := by
  intro s n lb
  refine ⟨fun hnot => if_neg hnot, fun hstalled hpend hnext => ?_⟩
  have hready : readyPending n s = resolveNotReady (walkerArrive n lb s) := by
    unfold readyPending
    rw [if_pos ⟨hstalled, hpend⟩, hnext]
  have hrun : (walkerArrive n lb s).run = s.run := by simp
  rw [hready]
  refine ⟨fun hnot => ?_, fun hstate hcause => ?_⟩
  · exact if_neg (by rwa [hrun])
  · exact if_pos (by rw [hrun]; exact ⟨hstate, hcause⟩)

/-! ## Entries in use (R45) -/

theorem onStack_iff (i : SegIdx) (stack : List LoopElem) : onStack i stack = true ↔ ∃ x ∈ stack, x.entry = i := by
  simp [onStack]

theorem entriesInUseAreCurrentOrOpen : Claims.EntriesInUseAreCurrentOrOpen := by
  intro s i
  unfold inUse
  rw [Bool.or_eq_true, onStack_iff]
  refine or_congr_left ?_
  cases s.walker.cur with
  | none => simp
  | some c => simp

/-! ## The segment commands -/

theorem segFlags_eq (s : State) (n : SegIdx) : segFlags s n = Claims.segmentFlags s n := by
  unfold segFlags Claims.segmentFlags
  have hpending : (s.walker.st == .stallReady && s.walker.pend == some n) = true ↔
      s.walker.st = .stallReady ∧ s.walker.pend = some n := by simp
  by_cases hp : s.walker.st = .stallReady ∧ s.walker.pend = some n
  · rw [if_pos (hpending.mpr hp), if_pos hp]
    cases inUse s n <;> rfl
  · rw [if_neg (mt hpending.mp hp), if_neg hp]
    cases inUse s n <;> rfl

/-- The state in which a segment command acts on the entry it names. -/
def segTaken (code : HW) (n : SegIdx) (s : State) : State :=
  { Claims.accepted code s with win.cmdres := Claims.segmentFlags s n }

section
variable {s : State} {code : HW} {changes : Bool} {f : SegIdx → State → State} {n : SegIdx}

/-- A segment command with an index of 64 or more. -/
theorem segCommand_badArg (hfree : busFree s = true) (hindex : 64 ≤ s.win.carg[0].toNat) :
    Claims.Becomes (command code (segCommand changes f) s) (Claims.refusedCmd code .badArg s) := by
  refine command_becomes hfree ?_
  have hentry : cargEntry (takeCmd code s) = none := dif_neg (Nat.not_lt.mpr hindex)
  rw [segCommand, hentry]
  exact refuseCmd_takeCmd code .badArg hfree

theorem cargEntry_takeCmd (hindex : s.win.carg[0].toNat = n.val) : cargEntry (takeCmd code s) = some n := by
  have hlt : s.win.carg[0].toNat < 64 := hindex ▸ n.isLt
  exact (dif_pos hlt).trans (congrArg some (Fin.ext hindex))

/-- A segment command that would change an entry in use. -/
theorem segCommand_inUse (hfree : busFree s = true) (hindex : s.win.carg[0].toNat = n.val) (huse : inUse s n = true) :
    Claims.Becomes (command code (segCommand true f) s) (Claims.refusedCmd code .segInUse s) := by
  refine command_becomes hfree ?_
  have huse : inUse (takeCmd code s) n = true := huse
  rw [segCommand, cargEntry_takeCmd hindex]
  simp only [huse, Bool.and_self, if_true]
  exact refuseCmd_takeCmd code .segInUse hfree

/-- A segment command that is accepted. -/
theorem segCommand_accepted (hfree : busFree s = true) (hindex : s.win.carg[0].toNat = n.val)
    (hchange : changes = false ∨ inUse s n = false) :
    Claims.Becomes (command code (segCommand changes f) s) (f n (segTaken code n s)) := by
  refine command_becomes hfree ?_
  have hpasses : (changes && inUse (takeCmd code s) n) = false := Bool.and_eq_false_iff.mpr hchange
  rw [segCommand, cargEntry_takeCmd hindex, segTaken, ← segFlags_eq]
  simp only [hpasses, Bool.false_eq_true, if_false]
  rfl

end

theorem exec_segWrite (s : State) : exec .segWrite s = command 0x10 (segCommand true segWriteAt) s := rfl
theorem exec_segRead (s : State) :
    exec .segRead s = command 0x11 (segCommand false fun n s => { s with seg.stage := s.seg.entries[n] }) s := rfl
theorem exec_segReady (s : State) :
    exec .segReady s = command 0x12 (segCommand true fun n s => readyPending n (setEntryReady n true s)) s := rfl
theorem exec_segUnready (s : State) :
    exec .segUnready s = command 0x13 (segCommand true fun n s => setEntryReady n false s) s := rfl

theorem segmentCommandsActOnTheNamedEntry : Claims.SegmentCommandsActOnTheNamedEntry := by
  intro s hfree
  refine ⟨fun hindex => ?_, fun n hindex => ⟨?_, fun huse => ?_, fun hunused => ⟨?_, ?_, ?_⟩⟩⟩
  · simp only [List.forall_mem_cons, exec_segWrite, exec_segRead, exec_segReady, exec_segUnready]
    exact ⟨segCommand_badArg hfree hindex, segCommand_badArg hfree hindex, segCommand_badArg hfree hindex,
      segCommand_badArg hfree hindex, fun _ hnone => nomatch hnone⟩
  · rw [exec_segRead]
    exact segCommand_accepted hfree hindex (.inl rfl)
  · simp only [List.forall_mem_cons, exec_segWrite, exec_segReady, exec_segUnready]
    exact ⟨segCommand_inUse hfree hindex huse, segCommand_inUse hfree hindex huse, segCommand_inUse hfree hindex huse,
      fun _ hnone => nomatch hnone⟩
  · rw [exec_segUnready]
    exact segCommand_accepted hfree hindex (.inr hunused)
  · rw [exec_segReady]
    exact segCommand_accepted hfree hindex (.inr hunused)
  · rw [exec_segWrite]
    exact segCommand_accepted hfree hindex (.inr hunused)

/-- Settles O42. -/
theorem segmentCommandsFollowTheirRules : Obligations.SegmentCommandsFollowTheirRules :=
  ⟨segmentCommandsActOnTheNamedEntry, readyingThePendingEntryResumesTheWalker, entriesInUseAreCurrentOrOpen,
    arrivalIsTakenWholeOrStalls⟩

end Sys2Proof.Machine
end

section
/-! The data port: reads and their fetches, posted writes and their drain (R181 to R185). -/

namespace Sys2Proof.Machine

theorem exec_wdataRead (s : State) : exec .wdataRead s = execWdataRead s := rfl
theorem exec_wdataWrite (v : HW) (s : State) : exec (.wdataWrite v) s = execWdataWrite v s := rfl
theorem exec_readAheadFetch (s : State) : exec .readAheadFetch s = execReadAheadFetch s := rfl
theorem exec_postedWriteDrain (s : State) : exec .postedWriteDrain s = execPostedWriteDrain s := rfl

theorem becomes_of_eq {r : Result} {t u : State} (h : Claims.Becomes r t) (heq : t = u) : Claims.Becomes r u := heq ▸ h

/-! ## The read-ahead buffer -/

theorem discardAhead_eq (s : State) : discardAhead s = Claims.readAheadDiscarded s := rfl

/-- A request takes the fetch at WADDR. -/
theorem requestFetch_eq (s : State) : requestFetch s = { s with win.fetch := Claims.fetchAt s s.win.waddr } := by
  unfold requestFetch waddrZone Claims.fetchAt
  cases rangeZone s s.win.waddr.toNat 1 <;> rfl

theorem fetchForRead_eq (s : State) :
    fetchForRead s =
      { s with win.fetch := if s.win.fetch = none then Claims.fetchAt s s.win.waddr else s.win.fetch } := by
  unfold fetchForRead
  rw [requestFetch_eq]
  by_cases hfetch : s.win.fetch = none
  · rw [if_pos hfetch, if_neg (by rw [hfetch]; decide)]
  · rw [if_neg hfetch, if_pos (Option.isSome_iff_ne_none.mpr hfetch)]

/-- A read is answered from the head of the buffer. -/
theorem serveRead_eq {s : State} {v : HW} {rest : List HW} (hahead : s.win.ahead = v :: rest) :
    serveRead s = Claims.answered v rest s := by
  unfold serveRead
  rw [hahead]
  change backgroundFetch (advanceWaddr _) = _
  unfold backgroundFetch
  rw [requestFetch_eq]
  change (if (s.win.stride && rest == [] && s.win.posted == []) = true then _ else _) = _
  have hcond : (s.win.stride && rest == [] && s.win.posted == []) = true ↔
      s.win.stride = true ∧ rest = [] ∧ s.win.posted = [] := by simp [and_assoc]
  by_cases h : s.win.stride = true ∧ rest = [] ∧ s.win.posted = []
  · rw [if_pos (hcond.mpr h), Claims.answered, if_pos h]
    rfl
  · rw [if_neg (mt hcond.mp h), Claims.answered, if_neg h]
    rfl

/-! ## Reads -/

theorem outOfZone_iff (s : State) (a n : Nat) : outOfZone s a n = true ↔ rangeZone s a n = none := Option.isNone_iff_eq_none

theorem outOfZone_eq_false_iff (s : State) (a n : Nat) : outOfZone s a n = false ↔ rangeZone s a n ≠ none := by
  rw [← Bool.not_eq_true, outOfZone_iff]

theorem memopBusy_eq_false {s : State} (hidle : s.win.memop = .idle) : memopBusy s = false := by
  rw [memopBusy, hidle, bne_self_eq_false]

theorem memopBusy_eq_true {s : State} (hbusy : s.win.memop ≠ .idle) : memopBusy s = true := (memopBusy_iff s).mpr hbusy

theorem wdataRead_refused {s : State} {code : Status} (hfree : busFree s = true) (h : wdataReadRefusal s = some code) :
    Claims.Becomes (exec .wdataRead s) (Claims.refusedAccess code 0x12 { s with win.busData := 0 }) := by
  rw [exec_wdataRead, Claims.Becomes, execWdataRead, hostAccess_taken _ hfree, h]
  exact congrArg (fun t => Host.Outcome.next (arbitrate t))
    (refuseAccess_of_busFree code 0x12 (s := { s with win.busData := 0 }) hfree)

theorem wdataRead_accepted {s : State} (hfree : busFree s = true) (h : wdataReadRefusal s = none) :
    Claims.Becomes (exec .wdataRead s) (acceptRead s) := by
  rw [exec_wdataRead, Claims.Becomes, execWdataRead, hostAccess_taken _ hfree, h]

theorem dataPortReadsAreServedOrStretched : Claims.DataPortReadsAreServedOrStretched := by
  intro s hfree inZone refused
  refine ⟨fun hready => ?_, fun hready hbusy => ?_, fun hready hidle hout => ?_, fun hready hidle hin => ?_⟩
  · exact wdataRead_refused hfree (by rw [wdataReadRefusal, hready]; rfl)
  · exact wdataRead_refused hfree (by rw [wdataReadRefusal, hready, memopBusy_eq_true hbusy]; rfl)
  · have hout := (outOfZone_iff s s.win.waddr.toNat 1).mpr (not_not.mp hout)
    exact wdataRead_refused hfree (by rw [wdataReadRefusal, hready, memopBusy_eq_false hidle, hout]; rfl)
  · have hin := (outOfZone_eq_false_iff s s.win.waddr.toNat 1).mpr hin
    have hbecomes := wdataRead_accepted hfree (by rw [wdataReadRefusal, hready, memopBusy_eq_false hidle, hin]; rfl)
    unfold acceptRead at hbecomes
    refine ⟨fun hposted => ?_, fun hposted v rest hstride hahead => ?_, fun hposted hnothing => ?_⟩
    · rwa [if_pos hposted] at hbecomes
    · have hserved : (s.win.stride && s.win.ahead != []) = true := by rw [hstride, hahead]; rfl
      rwa [if_neg (not_not.mpr hposted), if_pos hserved, serveRead_eq hahead] at hbecomes
    · have hserved : ¬ (s.win.stride && s.win.ahead != []) = true := by
        obtain h | h := hnothing <;> simp [h]
      rw [if_neg (not_not.mpr hposted), if_neg hserved, fetchForRead_eq] at hbecomes
      exact hbecomes

/-! ## Window grants -/

theorem windowUnit_of_grant {s : State} {u : WinUnit} (hgrant : s.mem.grant = some (.window u)) : windowUnit s = some u := by
  rw [windowUnit, hgrant]

theorem windowHolds_of_grant {s : State} {u : WinUnit} {kind : WinUnit → Bool} (hgrant : s.mem.grant = some (.window u))
    (hkind : kind u = true) : windowHolds kind s = true := by
  rw [windowHolds, windowUnit_of_grant hgrant]
  exact hkind

theorem readAheadFetch_becomes {s : State} {a n : Nat} {live : Bool}
    (hgrant : s.mem.grant = some (.window (.fetch a n live))) :
    Claims.Becomes (exec .readAheadFetch s) (endFetch a n live s) := by
  rw [exec_readAheadFetch]
  exact event_becomes (windowHolds_of_grant hgrant rfl) (by rw [windowUnit_of_grant hgrant])

theorem readAheadFetchEndsTheStretchedRead : Claims.ReadAheadFetchEndsTheStretchedRead := by
  intro s t a n live xs hgrant hread
  have hbecomes := readAheadFetch_becomes hgrant
  have hread : readHalves n a (freePort s) = (xs, t) := hread
  have hwin : t.win = s.win := by
    have hframe := congrArg (fun r => r.2.win) hread
    simpa using hframe.symm
  unfold endFetch at hbecomes
  rw [hread] at hbecomes
  refine ⟨fun hdead => ?_, fun hlive hno => ?_, fun v rest hlive haccess hxs => ?_⟩
  · subst hdead
    exact hbecomes
  · subst hlive
    rw [← hwin] at hno
    exact becomes_of_eq hbecomes (if_neg hno)
  · subst hlive
    rw [← hwin] at haccess
    have hserve : serveRead { t with win.ahead := xs, win.fetch := none } = _ := serveRead_eq hxs
    have hbecomes : Claims.Becomes (exec .readAheadFetch s)
      (if t.win.access = some .wdataRead then serveRead { t with win.ahead := xs, win.fetch := none } else _) := hbecomes
    rw [if_pos haccess, hserve] at hbecomes
    exact hbecomes

/-- Settles O43. -/
theorem dataPortReadsAndFetches : Obligations.DataPortReadsAndFetches :=
  ⟨dataPortReadsAreServedOrStretched, readAheadFetchEndsTheStretchedRead⟩

/-! ## Posted writes -/

/-- A write is stretched while the buffer is full and else taken. -/
theorem wdataWrite_becomes {s : State} (v : HW) (hfree : busFree s = true) :
    Claims.Becomes (exec (.wdataWrite v) s)
      (if 8 ≤ s.win.posted.length then { s with win.access := some (.wdataWrite v) } else takeWrite v s) := by
  rw [exec_wdataWrite, Claims.Becomes, execWdataWrite, hostAccess_taken _ hfree]

theorem takeWrite_refused {s : State} {v : HW} {code : Status} (hfree : busFree s = true)
    (h : wdataWriteRefusal s = some code) : takeWrite v s = Claims.refusedAccess code 0x12 s := by
  rw [takeWrite, h, accessUnless_refused, refuseAccess_of_busFree code 0x12 hfree]

theorem takeWrite_posted {s : State} {v : HW} (h : wdataWriteRefusal s = none) :
    takeWrite v s = { Claims.readAheadDiscarded s with
      win.posted := s.win.posted ++ [⟨s.win.waddr, v⟩], win.waddr := Claims.waddrMoved s } := by
  rw [takeWrite, h, accessUnless_passed]
  rfl

theorem zoneLocked_of_zone {s : State} {a n : Nat} {z : Zone} (hzone : rangeZone s a n = some z) :
    zoneLocked s a n = (runActive s && !z.wrun) := by
  rw [zoneLocked, hzone]

theorem dataPortWritesArePostedOrStretched : Claims.DataPortWritesArePostedOrStretched := by
  intro s v hfree row zone refused
  have hbecomes := wdataWrite_becomes v hfree
  refine ⟨fun hfull => by rwa [if_pos hfull] at hbecomes, fun hroom => ?_⟩
  rw [if_neg (by omega)] at hbecomes
  have hrefused : ∀ {code}, wdataWriteRefusal s = some code → Claims.Becomes row (refused code) := fun h =>
    becomes_of_eq hbecomes (takeWrite_refused hfree h)
  refine ⟨fun hready => hrefused ?_, fun hready hbusy => hrefused ?_, fun hready hidle hout => hrefused ?_,
    fun z hready hidle hzone hactive hwrun => hrefused ?_, fun z hready hidle hzone hopen => ?_⟩
  · rw [wdataWriteRefusal, hready]
    rfl
  · rw [wdataWriteRefusal, hready, memopBusy_eq_true hbusy]
    rfl
  · rw [wdataWriteRefusal, hready, memopBusy_eq_false hidle, (outOfZone_iff _ _ _).mpr hout]
    rfl
  · rw [wdataWriteRefusal, hready, memopBusy_eq_false hidle, zoneLocked_of_zone hzone,
      (outOfZone_eq_false_iff _ _ _).mpr (Option.ne_none_iff_exists'.mpr ⟨z, hzone⟩), hactive, hwrun]
    rfl
  · have hunlocked : (runActive s && !z.wrun) = false := by
      obtain h | h := hopen <;> simp [h]
    have hpasses : wdataWriteRefusal s = none := by
      rw [wdataWriteRefusal, hready, memopBusy_eq_false hidle, zoneLocked_of_zone hzone,
        (outOfZone_eq_false_iff _ _ _).mpr (Option.ne_none_iff_exists'.mpr ⟨z, hzone⟩), hunlocked]
      rfl
    rw [takeWrite_posted hpasses] at hbecomes
    exact hbecomes

/-! ## The drain -/

theorem drainGrant_eq (live : Bool) (ws : List PostedWrite) :
    drainGrant live ws = if ws = [] then none else some (.window (.drain ws live)) := by
  cases ws <;> rfl

theorem resumeAccess_of_write {s : State} {v : HW} (haccess : s.win.access = some (.wdataWrite v))
    (hroom : s.win.posted.length < 8) : resumeAccess s = takeWrite v { s with win.access := none } := by
  unfold resumeAccess
  rw [haccess]
  exact if_pos hroom

theorem resumeAccess_of_read {s : State} (haccess : s.win.access = some .wdataRead) :
    resumeAccess s = if s.win.posted = [] then fetchForRead s else s := by
  unfold resumeAccess
  rw [haccess]

theorem resumeAccess_of_neither {s : State} (hwrite : ∀ v, s.win.access ≠ some (.wdataWrite v))
    (hread : s.win.access ≠ some .wdataRead) : resumeAccess s = s := by
  unfold resumeAccess
  cases haccess : s.win.access with
  | none => rfl
  | some a =>
    cases a with
    | wdataWrite v => exact absurd haccess (hwrite v)
    | wdataRead => exact absurd haccess hread
    | patch => rfl
    | cancel => rfl

theorem postedWriteDrain_becomes {s : State} {w : PostedWrite} {ws : List PostedWrite} {live : Bool}
    (hgrant : s.mem.grant = some (.window (.drain (w :: ws) live))) :
    Claims.Becomes (exec .postedWriteDrain s) (drainNext live s (w :: ws)) := by
  rw [exec_postedWriteDrain]
  exact event_becomes (windowHolds_of_grant hgrant rfl) (by rw [windowUnit_of_grant hgrant])

theorem postedWritesDrainInOrder : Claims.PostedWritesDrainInOrder := by
  intro s w ws live hgrant hreset hcounts row t u
  have hbecomes := postedWriteDrain_becomes hgrant
  have hposted : u.win.posted.length < 8 := by
    obtain ⟨_, _, _, _, hlength, _⟩ := hcounts
    change (s.win.posted.drop 1).length < 8
    rw [List.length_drop]
    omega
  have hnext : drainNext live s (w :: ws) = if live = true then resumeAccess u else t := by
    rw [drainNext, drainGrant_eq]
    rfl
  rw [hnext] at hbecomes
  refine ⟨fun hdead => ?_, fun hlive => ?_⟩
  · subst hdead
    exact hbecomes
  rw [if_pos hlive] at hbecomes
  refine ⟨fun hwrite hread => ?_, fun v haccess => ?_, fun haccess hne => ?_, fun haccess hempty => ?_⟩
  · exact becomes_of_eq hbecomes (resumeAccess_of_neither (s := u) hwrite hread)
  · have htaken := wdataWrite_becomes v (s := { u with win.access := none }) (busFree_iff.mpr ⟨hreset, rfl⟩)
    rw [if_neg (Nat.not_le.mpr hposted)] at htaken
    exact (becomes_of_eq hbecomes (resumeAccess_of_write (s := u) haccess hposted)).trans htaken.symm
  · exact becomes_of_eq hbecomes ((resumeAccess_of_read (s := u) haccess).trans (if_neg hne))
  · exact becomes_of_eq hbecomes
      ((resumeAccess_of_read (s := u) haccess).trans ((if_pos hempty).trans (fetchForRead_eq u)))

/-- Settles O44. -/
theorem dataPortWritesAndDrains : Obligations.DataPortWritesAndDrains :=
  ⟨dataPortWritesArePostedOrStretched, postedWritesDrainInOrder⟩

end Sys2Proof.Machine
end

section
/-! FILL, COPY, PATCH and MEMOP_CANCEL, and the grants that carry them out (R186 to R188). -/

namespace Sys2Proof.Machine

theorem exec_fill (s : State) :
    exec .fill s = command 0x20 (fun s => cmdUnless (fillRefusal s)
      (fun s => startMemop (.fill (cargPair s 0) (cargPair s 2) s.win.carg[4]) s) s) s := rfl
theorem exec_copy (s : State) :
    exec .copy s = command 0x21 (fun s => cmdUnless (copyRefusal s)
      (fun s => startMemop (.copy (cargPair s 0) (cargPair s 2) (cargPair s 4) none) s) s) s := rfl
theorem exec_patch (s : State) : exec .patch s = command 0x22 (fun s => cmdUnless (patchRefusal s) startPatch s) s := rfl
theorem exec_memopCancel (s : State) : exec .memopCancel s = execMemopCancel s := rfl
theorem exec_fillBurst (s : State) : exec .fillBurst s = execFillBurst s := rfl
theorem exec_copyReadBurst (s : State) : exec .copyReadBurst s = execCopyReadBurst s := rfl
theorem exec_copyWriteBurst (s : State) : exec .copyWriteBurst s = execCopyWriteBurst s := rfl
theorem exec_patchGrant (s : State) : exec .patchGrant s = execPatchGrant s := rfl

/-! ## The grants of the engine's operations -/

section
variable {s : State}

theorem fillBurst_becomes {d n : Nat} {v : HW} {o : Owner} (hgrant : s.mem.grant = some (.window (.fill d n v o))) :
    Claims.Becomes (exec .fillBurst s) (endFillBurst d n v o s) := by
  rw [exec_fillBurst]
  exact event_becomes (windowHolds_of_grant hgrant rfl) (by rw [windowUnit_of_grant hgrant])

theorem copyReadBurst_becomes {a d n : Nat} {o : Owner} (hgrant : s.mem.grant = some (.window (.copyRead a d n o))) :
    Claims.Becomes (exec .copyReadBurst s) (endCopyRead a d n o s) := by
  rw [exec_copyReadBurst]
  exact event_becomes (windowHolds_of_grant hgrant rfl) (by rw [windowUnit_of_grant hgrant])

theorem copyWriteBurst_becomes {d : Nat} {xs : List HW} {o : Owner}
    (hgrant : s.mem.grant = some (.window (.copyWrite d xs o))) :
    Claims.Becomes (exec .copyWriteBurst s) (endCopyWrite d xs o s) := by
  rw [exec_copyWriteBurst]
  exact event_becomes (windowHolds_of_grant hgrant rfl) (by rw [windowUnit_of_grant hgrant])

theorem patchGrant_becomes {r : PatchReq} (hgrant : s.mem.grant = some (.window (.patch r))) :
    Claims.Becomes (exec .patchGrant s) (endPatch r s) := by
  rw [exec_patchGrant]
  exact event_becomes (windowHolds_of_grant hgrant rfl) (by rw [windowUnit_of_grant hgrant])

end

theorem lowHalf_eq (w : Word) : lowHalf w = w.setWidth 16 := (BitVec.setWidth_eq_extractLsb' (by decide)).symm

/-- The end of a burst of the operation in flight, at the three ways it can end. -/
theorem endLiveBurst_countBurst {s : State} (hreset : s.resetLow = false) (n : Nat) :
    endLiveBurst (countBurst n s) = Claims.burstCounted n s := by
  unfold endLiveBurst Claims.burstCounted
  by_cases haccess : s.win.access = some .cancel
  · refine (if_pos haccess).trans (Eq.trans ?_ (if_pos haccess).symm)
    rw [cancelMemop, lowHalf_eq]
    rfl
  · refine (if_neg haccess).trans (Eq.trans ?_ (if_neg haccess).symm)
    exact if_congr Iff.rfl (raise_of_reset_high .memopDone hreset) rfl

/-- The end of a burst that a SOFT_RESET left. -/
theorem endBurst_orphan (n : Nat) (c : Bool) (s : State) :
    endBurst n (.orphan c) s =
      { s with win.mopCount := if c then s.win.mopCount + BitVec.ofNat 32 n else s.win.mopCount } := by
  cases c <;> rfl

/-- A COPY in flight takes the halfwords of its read grant. -/
theorem holdCopied_of_copy {s : State} {src dst len : Nat} {held : Option (List HW)}
    (hmemop : s.win.memop = .copy src dst len held) (xs : List HW) :
    holdCopied xs s = { s with win.memop := .copy src dst len (some xs) } := by
  rw [holdCopied, hmemop]

theorem dropCopied_of_copy {s : State} {src dst len : Nat} {held : Option (List HW)}
    (hmemop : s.win.memop = .copy src dst len held) :
    dropCopied .live s = { s with win.memop := .copy src dst len none } := by
  unfold dropCopied
  simp only [hmemop]

theorem dropCopied_orphan (s : State) (c : Bool) : dropCopied (.orphan c) s = { s with win.orphan := none } := by
  unfold dropCopied
  cases s.win.memop <;> rfl

/-- Settles O45, burst by burst and owner by owner. -/
theorem burstsMoveAndCountHalfwords : Obligations.BurstsMoveAndCountHalfwords := by
  intro s hreset free
  refine ⟨fun d n v hgrant => ?_, fun d n v c hgrant => ?_, fun a d n src dst len held xs t hgrant hmemop hread => ?_,
    fun a d n c xs t hgrant hread => ?_, fun d xs src dst len held hgrant hmemop => ?_, fun d xs c hgrant => ?_⟩
  · exact becomes_of_eq (fillBurst_becomes hgrant)
      (endLiveBurst_countBurst (s := writeHalves d (List.replicate n v) (freePort s)) hreset n)
  · exact becomes_of_eq (fillBurst_becomes hgrant) (endBurst_orphan n c _)
  · have hread : readHalves n a (freePort s) = (xs, t) := hread
    have hwin : t.win = s.win := by
      have hframe := congrArg (fun r => r.2.win) hread
      simpa using hframe.symm
    have hbecomes := copyReadBurst_becomes hgrant
    unfold endCopyRead at hbecomes
    rw [hread] at hbecomes
    exact becomes_of_eq hbecomes (holdCopied_of_copy (hwin ▸ hmemop) xs)
  · have hread : readHalves n a (freePort s) = (xs, t) := hread
    have hbecomes := copyReadBurst_becomes hgrant
    unfold endCopyRead at hbecomes
    rw [hread] at hbecomes
    exact hbecomes
  · have hbecomes := copyWriteBurst_becomes hgrant
    unfold endCopyWrite at hbecomes
    rw [dropCopied_of_copy (s := writeHalves d xs (freePort s)) hmemop] at hbecomes
    exact becomes_of_eq hbecomes (endLiveBurst_countBurst
      (s := { writeHalves d xs (freePort s) with win.memop := .copy src dst len none }) hreset xs.length)
  · have hbecomes := copyWriteBurst_becomes hgrant
    unfold endCopyWrite at hbecomes
    rw [dropCopied_orphan] at hbecomes
    exact becomes_of_eq hbecomes (endBurst_orphan xs.length c _)

/-! ## The checks (R187, R188) -/

theorem toNat_append_eq_word (low high : HW) : (high ++ low).toNat = Claims.word low high := by
  unfold Claims.word
  rw [BitVec.toNat_append, Nat.shiftLeft_eq, Nat.mul_comm, ← Nat.two_pow_add_eq_or_of_lt (BitVec.isLt _)]
  omega

theorem cargPair_eq (s : State) :
    cargPair s 0 = Claims.args s 0 1 ∧ cargPair s 2 = Claims.args s 2 3 ∧ cargPair s 4 = Claims.args s 4 5 :=
  ⟨toNat_append_eq_word _ _, toNat_append_eq_word _ _, toNat_append_eq_word _ _⟩

/-- The six checks in their order, with what each asks. -/
theorem memoryChecks_eq (s : State) {bad bad' outside : Bool} {zones : List (Option Zone)} {a n : Nat}
    (hbad : bad = bad') (houtside : outside = true ↔ none ∈ zones) :
    firstRefusal [(!s.mem.ready, .memNotReady), (memopBusy s, .memopBusy), (s.win.posted != [], .wbufPending),
      (bad, .badArg), (outside, .outOfZone), (zoneLocked s a n, .zoneLocked)] =
    Claims.memoryChecks s bad' zones (rangeZone s a n) := by
  subst hbad
  unfold Claims.memoryChecks
  cases hready : s.mem.ready with
  | false => rfl
  | true =>
    rw [Bool.not_true, firstRefusal_cons_passes, if_neg (by decide)]
    by_cases hbusy : s.win.memop ≠ .idle
    · rw [memopBusy_eq_true hbusy, firstRefusal_cons_fails, if_pos hbusy]
    rw [memopBusy_eq_false (not_not.mp hbusy), firstRefusal_cons_passes, if_neg hbusy]
    by_cases hposted : s.win.posted ≠ []
    · rw [bne_iff_ne.mpr hposted, firstRefusal_cons_fails, if_pos hposted]
    rw [not_not.mp hposted, bne_self_eq_false, firstRefusal_cons_passes, if_neg (by simp)]
    cases bad with
    | true => rfl
    | false =>
      rw [firstRefusal_cons_passes, if_neg (by decide)]
      by_cases hzones : none ∈ zones
      · rw [houtside.mpr hzones, firstRefusal_cons_fails, if_pos hzones]
      rw [Bool.eq_false_iff.mpr (mt houtside.mp hzones), firstRefusal_cons_passes, if_neg hzones]
      unfold zoneLocked
      cases rangeZone s a n with
      | none => rw [Bool.and_false]; rfl
      | some z => cases runActive s <;> cases hrun : z.wrun <;> simp [hrun]

theorem fillRefusal_eq (s : State) :
    fillRefusal s =
      Claims.memoryChecks s (decide (2 ^ 25 ≤ Claims.args s 0 1 ∨ Claims.args s 2 3 = 0))
        [rangeZone s (Claims.args s 0 1) (Claims.args s 2 3)] (rangeZone s (Claims.args s 0 1) (Claims.args s 2 3)) := by
  obtain ⟨hdst, hlen, _⟩ := cargPair_eq s
  unfold fillRefusal
  rw [hdst, hlen]
  exact memoryChecks_eq s (Bool.eq_iff_iff.mpr (by simp)) (by rw [outOfZone_iff, List.mem_singleton, eq_comm])

theorem copyRefusal_eq (s : State) :
    copyRefusal s =
      let src := Claims.args s 0 1
      let dst := Claims.args s 2 3
      let len := Claims.args s 4 5
      Claims.memoryChecks s (decide (2 ^ 25 ≤ src ∨ 2 ^ 25 ≤ dst ∨ len = 0 ∨ (src < dst + len ∧ dst < src + len)))
        [rangeZone s dst len, rangeZone s src len] (rangeZone s dst len) := by
  obtain ⟨hsrc, hdst, hlen⟩ := cargPair_eq s
  unfold copyRefusal
  rw [hsrc, hdst, hlen]
  refine memoryChecks_eq s (Bool.eq_iff_iff.mpr ?_) ?_
  · simp [rangesOverlap, or_assoc]
  · rw [Bool.or_eq_true, outOfZone_iff, outOfZone_iff, List.mem_cons, List.mem_singleton]
    exact or_congr eq_comm eq_comm

theorem patchRefusal_eq (s : State) :
    patchRefusal s =
      Claims.memoryChecks s (decide (2 ^ 25 ≤ Claims.args s 0 1)) [rangeZone s (Claims.args s 0 1) 1]
        (rangeZone s (Claims.args s 0 1) 1) := by
  obtain ⟨haddr, _⟩ := cargPair_eq s
  unfold patchRefusal
  rw [haddr]
  exact memoryChecks_eq s rfl (by rw [outOfZone_iff, List.mem_singleton, eq_comm])

/-! ## PATCH -/

/-- Settles O46. -/
theorem patchModifiesOneHalfword : Obligations.PatchModifiesOneHalfword := by
  intro s a checks
  have hchecks : patchRefusal (takeCmd 0x22 s) = checks := patchRefusal_eq s
  refine ⟨fun code hfree hrefused => ?_, fun hfree hpasses => ?_, fun r old t hgrant hread => ?_⟩
  · rw [exec_patch]
    exact command_becomes_of_refused hfree (hchecks.trans hrefused)
  · rw [exec_patch]
    refine becomes_of_eq (command_becomes_of_passes hfree (hchecks.trans hpasses)) ?_
    have haddr : cargPair (takeCmd 0x22 s) 0 = a := (cargPair_eq s).1
    rw [startPatch, haddr]
    rfl
  · have hread : readHalf r.addr (freePort s) = (old, t) := hread
    have hbecomes := patchGrant_becomes hgrant
    unfold endPatch patchMemory at hbecomes
    rw [hread] at hbecomes
    exact hbecomes

/-! ## FILL and COPY begin -/

/-- An accepted FILL or COPY, by the grant it finds in progress. -/
theorem startMemop_eq (code : HW) (op : MemOp) (s : State) :
    startMemop op (takeCmd code s) = Claims.memopBegun code op s := by
  obtain ⟨_, _, _, _, _, _, _, _, _, ⟨_, _, _, _, _, _, _, _, _, _, grant⟩, _, _, _, _, _, _⟩ := s
  match grant with
  | none => rfl
  | some .refresh => rfl
  | some (.walker _) => rfl
  | some .writer => rfl
  | some (.window (.drain _ _)) => rfl
  | some (.window (.fetch _ _ _)) => rfl
  | some (.window (.fill _ _ _ .live)) => rfl
  | some (.window (.fill _ _ _ (.orphan _))) => rfl
  | some (.window (.copyRead _ _ _ .live)) => rfl
  | some (.window (.copyRead _ _ _ (.orphan _))) => rfl
  | some (.window (.copyWrite _ _ .live)) => rfl
  | some (.window (.copyWrite _ _ (.orphan _))) => rfl
  | some (.window (.patch _)) => rfl

theorem fillAndCopyAreCheckedAndBegun : Claims.FillAndCopyAreCheckedAndBegun := by
  intro s hfree dst len fill csrc cdst clen copy
  have hfill : fillRefusal (takeCmd 0x20 s) = fill := fillRefusal_eq s
  have hcopy : copyRefusal (takeCmd 0x21 s) = copy := copyRefusal_eq s
  obtain ⟨hfirst, hsecond, hthird⟩ := cargPair_eq s
  refine ⟨fun code hrefused => ?_, fun hpasses => ?_, fun code hrefused => ?_, fun hpasses => ?_⟩
  · rw [exec_fill]
    exact command_becomes_of_refused (refusal := fillRefusal) hfree (hfill.trans hrefused)
  · rw [exec_fill]
    refine becomes_of_eq (command_becomes_of_passes (refusal := fillRefusal) hfree (hfill.trans hpasses)) ?_
    rw [startMemop_eq]
    change Claims.memopBegun 0x20 (.fill (cargPair s 0) (cargPair s 2) s.win.carg[4]) s = _
    rw [hfirst, hsecond]
  · rw [exec_copy]
    exact command_becomes_of_refused (refusal := copyRefusal) hfree (hcopy.trans hrefused)
  · rw [exec_copy]
    refine becomes_of_eq (command_becomes_of_passes (refusal := copyRefusal) hfree (hcopy.trans hpasses)) ?_
    rw [startMemop_eq]
    change Claims.memopBegun 0x21 (.copy (cargPair s 0) (cargPair s 2) (cargPair s 4) none) s = _
    rw [hfirst, hsecond, hthird]

/-! ## MEMOP_CANCEL -/

/-- What MEMOP_CANCEL does, by whether an operation is in flight and a burst in progress. -/
def cancelRequest (s : State) : State :=
  if !memopBusy s then refuseCmd .wrongState s
  else if burstInProgress s then { s with win.access := some .cancel }
  else cancelMemop s

theorem memopCancel_becomes {s t : State} (hfree : busFree s = true) (heffect : cancelRequest (takeCmd 0x23 s) = t) :
    Claims.Becomes (exec .memopCancel s) t := by
  rw [exec_memopCancel]
  exact command_becomes hfree heffect

theorem memopCancelEndsTheOperation : Claims.MemopCancelEndsTheOperation := by
  intro s hfree
  obtain ⟨_, haccess⟩ := busFree_iff.mp hfree
  refine ⟨fun hidle => memopCancel_becomes hfree ?_, fun hbusy hnone => memopCancel_becomes hfree ?_,
    fun hbusy hburst => memopCancel_becomes hfree ?_⟩
  · have hidle : memopBusy (takeCmd 0x23 s) = false := memopBusy_eq_false hidle
    rw [cancelRequest, hidle, Bool.not_false, if_pos rfl, refuseCmd_takeCmd 0x23 .wrongState hfree]
  · have hbusy : memopBusy (takeCmd 0x23 s) = true := memopBusy_eq_true hbusy
    have hnone : burstInProgress (takeCmd 0x23 s) = false := hnone
    rw [cancelRequest, hbusy, hnone, Bool.not_true, if_neg (by decide), if_neg (by decide), cancelMemop, lowHalf_eq, ← haccess]
    rfl
  · have hbusy : memopBusy (takeCmd 0x23 s) = true := memopBusy_eq_true hbusy
    have hburst : burstInProgress (takeCmd 0x23 s) = true := hburst
    rw [cancelRequest, hbusy, hburst, Bool.not_true, if_neg (by decide), if_pos rfl]
    rfl

/-- The units that are bursts of the operation in flight. -/
theorem isLiveBurst_iff (u : WinUnit) :
    u.isLiveBurst = true ↔ (∃ d n v, u = .fill d n v .live) ∨ (∃ a d n, u = .copyRead a d n .live) ∨
      ∃ d xs, u = .copyWrite d xs .live := by
  match u with
  | .drain _ _ => simp [WinUnit.isLiveBurst]
  | .fetch _ _ _ => simp [WinUnit.isLiveBurst]
  | .fill _ _ _ .live => simp [WinUnit.isLiveBurst]
  | .fill _ _ _ (.orphan _) => simp [WinUnit.isLiveBurst]
  | .copyRead _ _ _ .live => simp [WinUnit.isLiveBurst]
  | .copyRead _ _ _ (.orphan _) => simp [WinUnit.isLiveBurst]
  | .copyWrite _ _ .live => simp [WinUnit.isLiveBurst]
  | .copyWrite _ _ (.orphan _) => simp [WinUnit.isLiveBurst]
  | .patch _ => simp [WinUnit.isLiveBurst]

theorem windowHolds_iff (kind : WinUnit → Bool) (s : State) :
    windowHolds kind s = true ↔ ∃ u, s.mem.grant = some (.window u) ∧ kind u = true := by
  constructor
  · intro hholds
    unfold windowHolds windowUnit at hholds
    cases hgrant : s.mem.grant with
    | none => simp [hgrant] at hholds
    | some g =>
      cases g with
      | window u => exact ⟨u, rfl, by simpa [hgrant] using hholds⟩
      | refresh => simp [hgrant] at hholds
      | walker l => simp [hgrant] at hholds
      | writer => simp [hgrant] at hholds
  · rintro ⟨u, hgrant, hkind⟩
    exact windowHolds_of_grant hgrant hkind

theorem burstsInProgressAreGrantedOrHeld : Claims.BurstsInProgressAreGrantedOrHeld := by
  intro s granted
  have hgranted : windowHolds WinUnit.isLiveBurst s = true ↔ granted := by
    simp only [windowHolds_iff, isLiveBurst_iff, granted]
  refine ⟨fun hidle => ?_, fun dst len v hfill => ?_, fun src dst len held hcopy => ?_⟩
  · rw [burstInProgress, hidle]
  · rw [burstInProgress, hfill]
    exact hgranted
  · rw [burstInProgress, hcopy]
    cases held with
    | none =>
      rw [← hgranted]
      simp
    | some xs => simp

/-- Settles O47. -/
theorem memoryOperationsBeginAndAreCancelled : Obligations.MemoryOperationsBeginAndAreCancelled :=
  ⟨fillAndCopyAreCheckedAndBegun, memopCancelEndsTheOperation, burstsInProgressAreGrantedOrHeld⟩

end Sys2Proof.Machine
end

section
/-! The entry check, and the walker's arrival and WAIT item (R38, R39, R57 to R62, R70 to R75). -/

namespace Sys2Proof.Machine

/-! ## Masks and fields -/

/-- A mask of the bits from `k` up leaves 0 exactly when the field above `k` is 0. -/
theorem and_highMask_ne_zero_iff {m : HW} {k : Nat} (hk : k ≤ 16) (hmask : ∀ i < 16, m.getLsbD i = decide (k ≤ i)) (v : HW) :
    (v &&& m != 0) = true ↔ v.extractLsb' k (16 - k) ≠ 0 := by
  rw [bne_iff_ne]
  refine not_congr ((and_highMask_eq_zero_iff hmask v).trans ?_)
  have hfield : (v.extractLsb' k (16 - k)).toNat = v.toNat / 2 ^ k := by
    rw [BitVec.extractLsb'_toNat, Nat.shiftRight_eq_div_pow, Nat.mod_eq_of_lt]
    rw [Nat.div_lt_iff_lt_mul (Nat.two_pow_pos k), ← pow_add, Nat.sub_add_cancel hk]
    exact v.isLt
  rw [← BitVec.toNat_inj, hfield]
  exact (Nat.div_eq_zero_iff_lt (Nat.two_pow_pos k)).symm

theorem and_bit15_ne_zero_iff (v : HW) : (v &&& 0x8000#16 != 0) = true ↔ v.getLsbD 15 = true := by
  rw [and_highMask_ne_zero_iff (k := 15) (by decide) (by decide)]
  have hbit : v.getLsbD 15 = (v.extractLsb' 15 1).getLsbD 0 := by simp
  rw [hbit]
  generalize v.extractLsb' 15 1 = b
  revert b
  decide

theorem and_linkMask_ne_zero_iff (v : HW) :
    (v &&& 0x8080#16 != 0) = true ↔ v.getLsbD 7 = true ∨ v.getLsbD 15 = true := by
  have hmask : ∀ i < 16, (0x8080#16).getLsbD i = (decide (i = 7) || decide (i = 15)) := by decide
  rw [bne_iff_ne, ne_eq, ← not_iff_not, not_not, not_or, Bool.not_eq_true, Bool.not_eq_true]
  constructor
  · intro hzero
    have hbit : ∀ i, (v &&& 0x8080#16).getLsbD i = (0#16).getLsbD i := fun i => congrArg (BitVec.getLsbD · i) hzero
    have h7 := hbit 7
    have h15 := hbit 15
    rw [BitVec.getLsbD_and, hmask _ (by decide), BitVec.getLsbD_zero] at h7 h15
    simpa using And.intro h7 h15
  · rintro ⟨h7, h15⟩
    refine BitVec.eq_of_getLsbD_eq fun i hi => ?_
    change _ = (0#16).getLsbD i
    rw [BitVec.getLsbD_and, hmask i hi, BitVec.getLsbD_zero]
    by_cases hi7 : i = 7
    · rw [hi7, h7, Bool.false_and]
    by_cases hi15 : i = 15
    · rw [hi15, h15, Bool.false_and]
    · rw [decide_eq_false hi7, decide_eq_false hi15, Bool.or_self, Bool.and_false]

/-! ## The entry check -/

theorem segReserved_iff (e : SegImage) :
    segReserved e = true ↔
      e[1].extractLsb' 9 7 ≠ 0 ∨ e[3].extractLsb' 13 3 ≠ 0 ∨ e[4].getLsbD 7 = true ∨ e[4].getLsbD 15 = true ∨
      e[6].getLsbD 15 = true ∨ e[10].extractLsb' 4 12 ≠ 0 ∨ e[11].extractLsb' 9 7 ≠ 0 := by
  unfold segReserved
  simp only [Bool.or_eq_true, and_bit15_ne_zero_iff, and_linkMask_ne_zero_iff,
    and_highMask_ne_zero_iff (m := 0xFE00#16) (k := 9) (by decide) (by decide),
    and_highMask_ne_zero_iff (m := 0xE000#16) (k := 13) (by decide) (by decide),
    and_highMask_ne_zero_iff (m := 0xFFF0#16) (k := 4) (by decide) (by decide), or_assoc]

theorem linkOf_eq_invalid_iff (n : BitVec 7) : linkOf n = .invalid ↔ ¬ (n.toNat < 64 ∨ n.toNat = 127) := by
  revert n
  decide

theorem toact_iff (c : BitVec 2) : (c = 2 ∨ c = 3) ↔ 2 ≤ c.toNat := by
  revert c
  decide

/-- Settles O48: the model's conditions are those of Table 3-2, one by one and in the same order. -/
theorem entryCheckFindsMalformedEntries : Obligations.EntryCheckFindsMalformedEntries := by
  intro s e names next alt rept wait
  have hwait : ∀ c : BitVec 2, wait = c.toNat ↔ segWaitCode e = c := fun c => BitVec.toNat_inj
  have hcount : segCount e = 0 ↔ e[2] = 0 := by
    rw [← BitVec.toNat_inj]
    rfl
  have hwait1 : wait = 1 ↔ segWaitCode e = 1 := hwait 1
  have hwait2 : wait = 2 ↔ segWaitCode e = 2 := hwait 2
  have hwait3 : wait = 3 ↔ segWaitCode e = 3 := hwait 3
  have hwait0 : wait ≠ 0 ↔ segWaitCode e ≠ 0 := not_congr (hwait 0)
  rw [hwait0, hwait1, hwait2, hwait3]
  unfold malformed
  simp only [Bool.or_eq_true, Bool.and_eq_true, beq_iff_eq, bne_iff_ne, decide_eq_true_eq, Bool.not_eq_true',
    segReserved_iff, linkOf_eq_invalid_iff, hcount, or_assoc]
  rw [← or_assoc (a := segToact e = 2), toact_iff]
  rfl

/-! ## Pushes -/

/-- A push that leaves the walker going, followed by the queue test. -/
theorem queueTest_pushItem (it : Item) (s : State) : queueTest (pushItem it s) = Claims.pushed it s := by
  unfold queueTest pushItem Claims.pushed
  rw [List.length_append]
  rfl

theorem walkerDue_of {kind : WalkStep → Bool} {s : State} (hst : s.walker.st = .walking) (hkind : kind s.walker.next = true) :
    walkerDue kind s = true := by
  rw [walkerDue, hst, hkind]
  rfl

/-! ## The arrival and the WAIT item -/

theorem exec_walkerArrival (s : State) : exec .walkerArrival s = execWalkerArrival s := rfl
theorem exec_waitItemPush (s : State) : exec .waitItemPush s = execWaitItemPush s := rfl

theorem walkerArrivalTakesTheEntry : Claims.WalkerArrivalTakesTheEntry := by
  intro s i lb hst hnext
  rw [exec_walkerArrival]
  exact event_becomes (walkerDue_of hst (by rw [hnext]; rfl)) (by rw [hnext]; exact arrivalIsTakenWholeOrStalls s i lb)

/-- The push of a WAIT item, behind a SKIP wait and otherwise. -/
theorem pushWaitItem_eq (c : CurrentEntry) (s : State) :
    pushWaitItem c s =
      if (waitItemOf s c.img).skip = true then
        { pushItem (.wait (waitItemOf s c.img) s.walker.tags) { s with walker.next := .fetch } with walker.st := .stallWait }
      else Claims.pushed (.wait (waitItemOf s c.img) s.walker.tags)
        { s with walker.next := .fetch, walker.fetchAddr := Claims.base c.img } := by
  unfold pushWaitItem
  rw [← queueTest_pushItem, ← segBase_eq]
  rfl

theorem waitItemIsPushedBeforeTheRecords : Claims.WaitItemIsPushedBeforeTheRecords := by
  intro s c hst hnext hcur e skip w addr t
  have hdue : (walkerDue (· == .pushWait) s && s.walker.cur.isSome) = true := by
    rw [walkerDue_of hst (by rw [hnext]; rfl), hcur]
    rfl
  have hbecomes : Claims.Becomes (exec .waitItemPush s) (pushWaitItem c s) := by
    rw [exec_waitItemPush]
    exact event_becomes hdue (by rw [hcur])
  refine becomes_of_eq hbecomes ((pushWaitItem_eq c s).trans ?_)
  change (if skip = true then _ else _) = (if skip = true then _ else _)
  by_cases hskip : skip = true
  · rw [if_pos hskip, if_pos hskip]
    have haddr : addr = s.walker.fetchAddr := if_pos hskip
    change _ = { Claims.pushed (.wait w s.walker.tags) { s with walker.next := .fetch, walker.fetchAddr := addr } with
      walker.st := .stallWait }
    rw [haddr]
    rfl
  · rw [if_neg hskip, if_neg hskip]
    have haddr : addr = Claims.base e := if_neg hskip
    change _ = Claims.pushed (.wait w s.walker.tags) { s with walker.next := .fetch, walker.fetchAddr := addr }
    rw [haddr]
    rfl

/-- Settles O49. -/
theorem walkerArrivalAndWaitItem : Obligations.WalkerArrivalAndWaitItem :=
  ⟨walkerArrivalTakesTheEntry, waitItemIsPushedBeforeTheRecords⟩

end Sys2Proof.Machine
end

section
/-! The record fetch and its decode checks, and the walker's leaving (R18, R27, R46, R62 to R69, R71, R76). -/

namespace Sys2Proof.Machine

/-! ## The decode checks (Table 2-4) -/

theorem hdrReserved_iff (h : HW) : hdrReserved h = true ↔ 512 ≤ h.toNat := by
  have hzero := and_highMask_eq_zero_iff (m := 0xFE00#16) (k := 9) (by decide) h
  rw [hdrReserved, bne_iff_ne, ne_eq, hzero]
  omega

theorem valid_iff (t : TimingSet) :
    t.valid = true ↔ 4 ≤ t.per.toNat ∧ t.drv.toNat < t.per.toNat ∧ t.stb.toNat < t.per.toNat := by
  simp [TimingSet.valid, and_assoc]

theorem hasMixedLane_iff (cfg : PortCfg) (q : PortPart) :
    hasMixedLane cfg q = true ↔
      cfg.kind ≠ .eq ∧ ∃ i < 16 / cfg.width.pins, laneClass cfg.width.pins q i = .mixed := by
  simp [hasMixedLane, CompareKind.isMagnitude, laneCount]

/-- A port in standby is present. -/
def standbyPresent (s : State) (parts : Vector (Option PortPart) 4) : Bool :=
  all4.any fun p => parts[p].isSome && !s.ports.cfg[p].enabled

/-- A present port has a MIXED lane under a magnitude kind. -/
def mixedPresent (s : State) (parts : Vector (Option PortPart) 4) : Bool :=
  all4.any fun p => match parts[p] with
    | some q => hasMixedLane s.ports.cfg[p] q
    | none => false

theorem standbyPresent_iff (s : State) (parts : Vector (Option PortPart) 4) :
    standbyPresent s parts = true ↔ ∃ p : Port, parts[p] ≠ none ∧ s.ports.cfg[p].enabled = false := by
  unfold standbyPresent
  rw [List.any_eq_true]
  constructor
  · rintro ⟨p, _, hp⟩
    rw [Bool.and_eq_true, Option.isSome_iff_ne_none, Bool.not_eq_true'] at hp
    exact ⟨p, hp⟩
  · rintro ⟨p, hpresent, hstandby⟩
    exact ⟨p, mem_all4 p, by rw [Bool.and_eq_true, Option.isSome_iff_ne_none, Bool.not_eq_true']; exact ⟨hpresent, hstandby⟩⟩

theorem mixedPresent_iff (s : State) (parts : Vector (Option PortPart) 4) :
    mixedPresent s parts = true ↔
      ∃ (p : Port) (q : PortPart) (i : Nat), parts[p] = some q ∧ s.ports.cfg[p].kind ≠ .eq ∧
        i < 16 / s.ports.cfg[p].width.pins ∧ laneClass s.ports.cfg[p].width.pins q i = .mixed := by
  unfold mixedPresent
  rw [List.any_eq_true]
  constructor
  · rintro ⟨p, _, hp⟩
    cases hpart : parts[p] with
    | none => rw [hpart] at hp; cases hp
    | some q =>
      rw [hpart] at hp
      obtain ⟨hkind, i, hi, hmixed⟩ := (hasMixedLane_iff _ _).mp hp
      exact ⟨p, q, i, hpart, hkind, hi, hmixed⟩
  · rintro ⟨p, q, i, hpart, hkind, hi, hmixed⟩
    refine ⟨p, mem_all4 p, ?_⟩
    rw [hpart]
    exact (hasMixedLane_iff _ _).mpr ⟨hkind, i, hi, hmixed⟩

theorem decodeFault_eq (s : State) (h : HW) (parts : Vector (Option PortPart) 4) :
    decodeFault s h parts =
      if hdrReserved h = true ∨ s.tsets.sets[hdrTset h].valid = false then some .badVector
      else if standbyPresent s parts = true then some .portStandby
      else if mixedPresent s parts = true then some .mixedLane else none := by
  unfold decodeFault
  cases hdrReserved h <;> cases hvalid : s.tsets.sets[hdrTset h].valid <;> rfl

theorem checksFailInOrder : Claims.ChecksFailInOrder := by
  intro s h parts t bad standby mixed
  have hbad : (hdrReserved h = true ∨ s.tsets.sets[hdrTset h].valid = false) ↔ bad := by
    rw [hdrReserved_iff, ← Bool.not_eq_true, valid_iff]
    rfl
  have hstandby : standbyPresent s parts = true ↔ standby := standbyPresent_iff s parts
  have hmixed : mixedPresent s parts = true ↔ mixed := mixedPresent_iff s parts
  rw [decodeFault_eq]
  by_cases hb : bad
  · rw [if_pos (hbad.mpr hb)]
    exact ⟨iff_of_true rfl hb, iff_of_false (by decide) fun h => h.1 hb, iff_of_false (by decide) fun h => h.1 hb,
      iff_of_false (by decide) fun h => h.1 hb⟩
  rw [if_neg (mt hbad.mp hb)]
  by_cases hs : standby
  · rw [if_pos (hstandby.mpr hs)]
    exact ⟨iff_of_false (by decide) hb, iff_of_true rfl ⟨hb, hs⟩, iff_of_false (by decide) fun h => h.2.1 hs,
      iff_of_false (by decide) fun h => h.2.1 hs⟩
  rw [if_neg (mt hstandby.mp hs)]
  by_cases hm : mixed
  · rw [if_pos (hmixed.mpr hm)]
    exact ⟨iff_of_false (by decide) hb, iff_of_false (by decide) fun h => hs h.2, iff_of_true rfl ⟨hb, hs, hm⟩,
      iff_of_false (by decide) fun h => h.2.2 hm⟩
  · rw [if_neg (mt hmixed.mp hm)]
    exact ⟨iff_of_false (by decide) hb, iff_of_false (by decide) fun h => hs h.2,
      iff_of_false (by decide) fun h => hm h.2.2, iff_of_true rfl ⟨hb, hs, hm⟩⟩

/-! ## The port parts and the decoded vector -/

theorem hdrPresent_bit (h : HW) {p : Nat} (hp : p < 4) : (hdrPresent h).getLsbD p = h.getLsbD (3 + p) := by
  simp [hdrPresent, hp]

/-- The ports below `p` in a header's PRESENT. -/
theorem portRank_hdrPresent (h : HW) {p : Nat} (hp : p ≤ 4) :
    portRank (hdrPresent h) p = ((List.range p).filter fun q => h.getLsbD (3 + q)).length := by
  unfold portRank
  refine congrArg List.length (List.filter_congr fun q hq => ?_)
  rw [hdrPresent_bit h (Nat.lt_of_lt_of_le (List.mem_range.mp hq) hp)]

theorem recordLength_eq (h : HW) :
    recordLength h = 1 + 3 * ((List.range 4).filter fun p => h.getLsbD (3 + p)).length := by
  rw [recordLength, portRank_hdrPresent h (by decide)]

theorem portPartsStandInPortOrder : Claims.PortPartsStandInPortOrder := by
  intro h body p before
  have hrank : portRank (hdrPresent h) p.val = before := portRank_hdrPresent h (Nat.le_of_lt p.isLt)
  have hpart : (recordParts h body)[p] = _ := getElem_vec4 _ p
  rw [hdrPresent_bit h p.isLt, hrank] at hpart
  refine ⟨fun habsent => ?_, fun dir data care rest hpresent hbody => ?_⟩
  · rw [hpart, habsent]
    rfl
  · have hword : ∀ i, body.getD (3 * before + i) 0 = (dir :: data :: care :: rest).getD i 0 := fun i => by
      rw [← hbody, List.getD_eq_getElem?_getD, List.getD_eq_getElem?_getD, List.getElem?_drop]
    rw [hpart, hpresent, if_pos rfl]
    change some (PortPart.mk (body.getD (3 * before + 0) 0) _ _) = _
    rw [hword, hword, hword]
    rfl

theorem decodedVectorHoldsTheRecord : Claims.DecodedVectorHoldsTheRecord := by
  intro s e k h parts v
  refine ⟨rfl, rfl, rfl, rfl, fun p => ?_⟩
  have hpart : v.parts[p] = parts[p].map (modifyPart e s.ports.cfg[p] p k) := getElem_vec4 _ p
  rw [hpart]
  refine ⟨fun hnone => by rw [hnone]; rfl, fun q hsome => by rw [hsome]; rfl⟩

/-- Settles O51. -/
theorem decodeChecksDecideTheFaultInOrder : Obligations.DecodeChecksDecideTheFaultInOrder :=
  ⟨checksFailInOrder, portPartsStandInPortOrder, decodedVectorHoldsTheRecord⟩

/-! ## The record fetch -/

theorem exec_recordFetch (s : State) : exec .recordFetch s = execRecordFetch s := rfl

/-- The position after a vector: the next record, the next iteration, or the leaving. -/
theorem advanceFetch_eq (e : SegImage) (len : Nat) (u : State) :
    advanceFetch e len u =
      if u.walker.tags.off.toNat + 1 < e[2].toNat then
        { u with walker.tags := { u.walker.tags with off := u.walker.tags.off + 1 }
                 walker.fetchAddr := u.walker.fetchAddr + len }
      else if u.walker.tags.iter.toNat + 1 < (e[3].extractLsb' 0 13).toNat then
        { u with walker.tags := { u.walker.tags with off := 0, iter := u.walker.tags.iter + 1 }
                 walker.fetchAddr := Claims.base e }
      else { u with walker.next := .leave, walker.fetchAddr := u.walker.fetchAddr + len } := by
  rw [← segBase_eq]
  rfl

theorem advanceFetch_pushItem (e : SegImage) (len : Nat) (it : Item) (u : State) :
    advanceFetch e len (pushItem it u) = pushItem it (advanceFetch e len u) := by
  rw [advanceFetch_eq, advanceFetch_eq]
  change (if u.walker.tags.off.toNat + 1 < e[2].toNat then _
    else if u.walker.tags.iter.toNat + 1 < (e[3].extractLsb' 0 13).toNat then _ else _) = _
  by_cases hoff : u.walker.tags.off.toNat + 1 < e[2].toNat
  · rw [if_pos hoff, if_pos hoff]
    rfl
  rw [if_neg hoff, if_neg hoff]
  by_cases hiter : u.walker.tags.iter.toNat + 1 < (e[3].extractLsb' 0 13).toNat
  · rw [if_pos hiter, if_pos hiter]
    rfl
  · rw [if_neg hiter, if_neg hiter]
    rfl

/-- The record fetch sees nothing of a state but its timing sets and ports. -/
theorem decodeFault_congr {s u : State} (htsets : u.tsets = s.tsets) (hports : u.ports = s.ports) (h : HW)
    (parts : Vector (Option PortPart) 4) : decodeFault u h parts = decodeFault s h parts := by
  unfold decodeFault
  rw [htsets, hports]

theorem decodeVector_congr {s u : State} (htsets : u.tsets = s.tsets) (hports : u.ports = s.ports) (e : SegImage) (k : Nat)
    (h : HW) (parts : Vector (Option PortPart) 4) : decodeVector u e k h parts = decodeVector s e k h parts := by
  unfold decodeVector
  rw [htsets, hports]

theorem rangeInKind_congr {s u : State} (hzones : u.mem.zones = s.mem.zones) (k : ZoneKind) (a n : Nat) :
    rangeInKind u k a n = rangeInKind s k a n := by
  unfold rangeInKind rangeZone
  rw [hzones]

theorem pushRecord_of_fault {u : State} {h : HW} {body : List HW} {code : FaultCode} (e : SegImage)
    (hfault : decodeFault u h (recordParts h body) = some code) :
    pushRecord e h body u = Claims.faultPushed code u.walker.tags u := by
  unfold pushRecord
  simp only [hfault]
  rfl

theorem pushRecord_of_pass {u : State} {h : HW} {body : List HW} (e : SegImage)
    (hpass : decodeFault u h (recordParts h body) = none) :
    pushRecord e h body u =
      Claims.pushed (.vector (decodeVector u e u.walker.tags.iter.toNat h (recordParts h body)) u.walker.tags
        (decide (u.walker.tags.off.toNat + 1 = e[2].toNat))) (advanceFetch e (recordLength h) u) := by
  unfold pushRecord
  simp only [hpass]
  rw [advanceFetch_pushItem, queueTest_pushItem]
  rfl

theorem recordFetch_becomes {s : State} (hoccurs : recordFetchOccurs s = true) :
    Claims.Becomes (exec .recordFetch s) (recordFetch s) := by
  rw [exec_recordFetch]
  exact event_becomes hoccurs rfl

theorem headerOutside_iff (s : State) :
    headerOutside s = true ↔ rangeInKind s .vector s.walker.fetchAddr 1 = false := by
  rw [headerOutside, Bool.not_eq_true']

theorem fetchDue_iff (s : State) :
    fetchDue s = true ↔ s.walker.st = .walking ∧ s.walker.next = .fetch ∧ s.walker.cur ≠ none := by
  simp [fetchDue, walkerDue, Option.isSome_iff_ne_none, and_assoc]

/-- A grant that outlived its walk ends. -/
theorem recordFetch_of_discarded {s : State} (hgrant : s.mem.grant = some (.walker false))
    (hnot : ¬ (s.walker.st = .walking ∧ s.walker.next = .fetch ∧ s.walker.cur ≠ none ∧
      rangeInKind s .vector s.walker.fetchAddr 1 = false)) :
    Claims.Becomes (exec .recordFetch s) { s with mem.grant := none } := by
  have hholds : walkerHolds s = true := by
    rw [walkerHolds, hgrant]
    rfl
  refine becomes_of_eq (recordFetch_becomes (by rw [recordFetchOccurs, hholds, Bool.or_true])) ?_
  have hinside : ¬ (fetchDue s && headerOutside s) = true := by
    rw [Bool.and_eq_true, fetchDue_iff, headerOutside_iff]
    tauto
  rw [recordFetch, if_neg hinside, hgrant, if_neg (by simp)]
  rfl

section
variable {s : State} {c : CurrentEntry}

/-- A header outside every VECTOR zone. -/
theorem recordFetch_of_outside (hdue : fetchDue s = true) (houtside : rangeInKind s .vector s.walker.fetchAddr 1 = false) :
    Claims.Becomes (exec .recordFetch s) (Claims.faultPushed .fetchZone s.walker.tags s) := by
  have hout : (fetchDue s && headerOutside s) = true := by
    rw [hdue, (headerOutside_iff s).mpr houtside]
    rfl
  refine becomes_of_eq (recordFetch_becomes (by rw [recordFetchOccurs, hout, Bool.true_or])) ?_
  rw [recordFetch, if_pos hout]
  rfl

/-- The fetch under the walker's grant. -/
theorem recordFetch_of_granted (hdue : fetchDue s = true) (hcur : s.walker.cur = some c)
    (hinside : rangeInKind s .vector s.walker.fetchAddr 1 = true) (hgrant : s.mem.grant = some (.walker true)) :
    Claims.Becomes (exec .recordFetch s) (fetchRecord c.img (freePort s)) := by
  have hholds : walkerHolds s = true := by
    rw [walkerHolds, hgrant]
    rfl
  refine becomes_of_eq (recordFetch_becomes (by rw [recordFetchOccurs, hholds, Bool.or_true])) ?_
  have hnot : ¬ (fetchDue s && headerOutside s) = true := by
    rw [Bool.and_eq_true, headerOutside_iff, hinside]
    simp
  rw [recordFetch, if_neg hnot, if_pos ⟨hgrant, hdue⟩, hcur]

end

/-- The fetch of a record that would leave its zone. -/
theorem fetchRecord_of_outside {s t : State} {h : HW} (e : SegImage) (hread : readHalf s.walker.fetchAddr s = (h, t))
    (houtside : rangeInKind t .vector s.walker.fetchAddr (recordLength h) = false) :
    fetchRecord e s = Claims.faultPushed .fetchZone t.walker.tags t := by
  unfold fetchRecord
  simp only [hread, houtside]
  rfl

/-- The fetch of a record inside a zone. -/
theorem fetchRecord_of_inside {s t u : State} {h : HW} {body : List HW} (e : SegImage)
    (hread : readHalf s.walker.fetchAddr s = (h, t))
    (hinside : rangeInKind t .vector s.walker.fetchAddr (recordLength h) = true)
    (hbody : readHalves (recordLength h - 1) (s.walker.fetchAddr + 1) t = (body, u)) :
    fetchRecord e s = pushRecord e h body u := by
  unfold fetchRecord
  simp only [hread, hinside, hbody]
  rfl

/-- Settles O50: the fetch by whether its header, then its record, lies in a VECTOR zone, then by its checks. -/
theorem recordFetchDecodesAndPushesOneVector : Obligations.RecordFetchDecodesAndPushesOneVector := by
  intro s c
  refine ⟨recordFetch_of_discarded, fun hst hnext hcur => ?_⟩
  have hdue : fetchDue s = true := (fetchDue_iff s).mpr ⟨hst, hnext, by rw [hcur]; simp⟩
  refine ⟨recordFetch_of_outside hdue, fun h t hheader hgrant hread => ?_⟩
  have hbecomes := recordFetch_of_granted hdue hcur hheader hgrant
  have ht := readHalf_frame s.walker.fetchAddr (freePort s)
  have hread : readHalf s.walker.fetchAddr (freePort s) = (h, t) := hread
  rw [hread] at ht
  obtain ⟨htports, httsets, _, htwalker, _, _, _, _, _, htmem, _⟩ := ht
  have htzones : t.mem.zones = s.mem.zones := by rw [htmem]; rfl
  rw [← recordLength_eq]
  refine ⟨fun houtside => ?_, fun body u hinside hbody => ?_⟩
  · refine becomes_of_eq hbecomes ((fetchRecord_of_outside _ hread ?_).trans (by rw [htwalker]; rfl))
    exact (rangeInKind_congr htzones _ _ _).trans houtside
  have hpushed : fetchRecord c.img (freePort s) = pushRecord c.img h body u :=
    fetchRecord_of_inside _ hread ((rangeInKind_congr htzones _ _ _).trans hinside) hbody
  rw [hpushed] at hbecomes
  have hu := readHalves_frame (recordLength h - 1) (s.walker.fetchAddr + 1) t
  rw [hbody] at hu
  obtain ⟨huports, hutsets, _, huwalker, _⟩ := hu
  have hports : u.ports = s.ports := huports.trans htports
  have htsets : u.tsets = s.tsets := hutsets.trans httsets
  have hwalker : u.walker = s.walker := huwalker.trans htwalker
  refine ⟨fun code hfault => ?_, fun hpass => ?_⟩
  · refine becomes_of_eq hbecomes ((pushRecord_of_fault _ ((decodeFault_congr htsets hports _ _).trans hfault)).trans ?_)
    rw [hwalker]
  · refine becomes_of_eq hbecomes ((pushRecord_of_pass _ ((decodeFault_congr htsets hports _ _).trans hpass)).trans ?_)
    rw [decodeVector_congr htsets hports, advanceFetch_eq, hwalker]

end Sys2Proof.Machine
end

section
/-! The walker's leaving: release, the links, loops closed and passes left (R46, R47, R65 to R69, R76). -/

namespace Sys2Proof.Machine

/-! ## Release and links -/

theorem linkOf_127 {n : BitVec 7} (h : n.toNat = 127) : linkOf n = .endChain := by
  have hn : n = 127#7 := BitVec.eq_of_toNat_eq h
  rw [hn]
  decide

theorem linkOf_ne_endChain {n : BitVec 7} (h : n.toNat < 64) : linkOf n ≠ .endChain := by
  rw [linkOf, dif_pos h]
  exact nofun

theorem linkOf_ne_invalid {n : BitVec 7} (h : n.toNat < 64 ∨ n.toNat = 127) : linkOf n ≠ .invalid :=
  fun hbad => (linkOf_eq_invalid_iff n).mp hbad h

/-- Release by the walker's own movement, when RESET_N is high. -/
theorem releaseIfFree_eq {s : State} (hreset : s.resetLow = false) (i : SegIdx) :
    releaseIfFree i s = Claims.released i s := by
  have hkept : (onStack i s.walker.stack || segKeep s.seg.entries[i]) = true ↔
      (∃ x ∈ s.walker.stack, x.entry = i) ∨ (s.seg.entries[i])[6].getLsbD 1 = true := by
    rw [Bool.or_eq_true, onStack_iff]
    rfl
  exact if_congr hkept rfl (raise_of_reset_high .segReleased hreset)

/-- Following a link out of an entry. -/
theorem followLink_eq {s : State} (hreset : s.resetLow = false) (i : SegIdx) {n : BitVec 7}
    (hdest : n.toNat < 64 ∨ n.toNat = 127) : followLink i (linkOf n) s = Claims.left i n.toNat s := by
  obtain hentry | hend := hdest
  · rw [linkOf, dif_pos hentry, Claims.left, dif_pos hentry, ← releaseIfFree_eq hreset]
    rfl
  · rw [linkOf_127 hend, Claims.left, dif_neg (by omega), ← releaseIfFree_eq hreset]
    rfl

/-! ## Leaving with no loop to close, and closing one -/

theorem leaveOpen_follows {s : State} (hreset : s.resetLow = false) {i : SegIdx} {n : BitVec 7} (tags : Tags)
    (hdest : n.toNat < 64 ∨ n.toNat = 127) (hout : n.toNat < 64 ∨ s.walker.stack = []) :
    leaveOpen i (linkOf n) tags s = Claims.left i n.toNat s := by
  have hclosed : ¬ (linkOf n = .endChain ∧ s.walker.stack ≠ []) := by
    rintro ⟨hend, hloops⟩
    obtain h | h := hout
    · exact linkOf_ne_endChain h hend
    · exact hloops h
  rw [leaveOpen, if_neg hclosed, followLink_eq hreset i hdest]

theorem leaveOpen_unclosed {s : State} {i : SegIdx} {n : BitVec 7} (tags : Tags) (hend : n.toNat = 127)
    (hloops : s.walker.stack ≠ []) : leaveOpen i (linkOf n) tags s = Claims.faultPushed .loopUnclosed tags s := by
  rw [leaveOpen, if_pos ⟨linkOf_127 hend, hloops⟩]
  rfl

theorem leaveClosing_underflow {s : State} {i : SegIdx} {dest : Link} (tags : Tags) (hstack : s.walker.stack = []) :
    leaveClosing i dest tags s = Claims.faultPushed .loopUnderflow tags s := by
  unfold leaveClosing
  simp only [hstack]
  rfl

/-- The state of a loop-back: the top element counts a pass, its opener is arrived at again. -/
theorem leaveClosing_loopBack {s : State} (hreset : s.resetLow = false) {i : SegIdx} {dest : Link} {top : LoopElem}
    {rest : List LoopElem} (tags : Tags) (hstack : s.walker.stack = top :: rest) (hpasses : top.remaining ≠ 0) :
    leaveClosing i dest tags s =
      let top' := { top with remaining := top.remaining - 1, pass := top.pass + 1 }
      let t := Claims.released i { s with walker.stack := top' :: rest, walker.tags.pass := top'.pass }
      { t with walker.st := .walking, walker.cur := none, walker.next := .arrive top.entry true } := by
  unfold leaveClosing
  simp only [hstack]
  rw [if_pos hpasses, loopBackTo, releaseIfFree_eq]
  · rfl
  · exact hreset

/-- The last pass: a chain that would end inside an outer loop. -/
theorem leaveClosing_unclosed {s : State} {i : SegIdx} {n : BitVec 7} {top : LoopElem} {rest : List LoopElem} (tags : Tags)
    (hstack : s.walker.stack = top :: rest) (hlast : top.remaining = 0) (hend : n.toNat = 127) (hloops : rest ≠ []) :
    leaveClosing i (linkOf n) tags s = Claims.faultPushed .loopUnclosed tags s := by
  unfold leaveClosing
  simp only [hstack]
  rw [if_neg (not_not.mpr hlast), if_pos ⟨linkOf_127 hend, hloops⟩]
  rfl

/-- The last pass: the loop is popped, its opener released and the link followed. -/
theorem leaveClosing_pops {s : State} (hreset : s.resetLow = false) {i : SegIdx} {n : BitVec 7} {top : LoopElem}
    {rest : List LoopElem} (tags : Tags) (hstack : s.walker.stack = top :: rest) (hlast : top.remaining = 0)
    (hdest : n.toNat < 64 ∨ n.toNat = 127) (hout : n.toNat < 64 ∨ rest = []) :
    leaveClosing i (linkOf n) tags s =
      let t := { s with walker.stack := rest, walker.tags.pass := stackPass rest }
      Claims.left i n.toNat (if top.entry = i then t else Claims.released top.entry t) := by
  have hclosed : ¬ (linkOf n = .endChain ∧ rest ≠ []) := by
    rintro ⟨hend, hloops⟩
    obtain h | h := hout
    · exact linkOf_ne_endChain h hend
    · exact hloops h
  unfold leaveClosing
  simp only [hstack]
  rw [if_neg (not_not.mpr hlast), if_neg hclosed, if_neg (linkOf_ne_invalid hdest), popAndLeave,
    releaseIfFree_eq (s := { s with walker.stack := rest, walker.tags.pass := stackPass rest }) hreset]
  refine followLink_eq ?_ i hdest
  split
  · exact hreset
  · rw [← releaseIfFree_eq (s := { s with walker.stack := rest, walker.tags.pass := stackPass rest }) hreset]
    simpa using hreset

/-! ## WALKER_LEAVING -/

theorem exec_walkerLeaving (s : State) : exec .walkerLeaving s = execWalkerLeaving s := rfl

theorem walkerLeaving_becomes {s : State} {c : CurrentEntry} (alt : Bool) (hst : s.walker.st = .walking)
    (hnext : s.walker.next = if alt then .leaveAlt else .leave) (hcur : s.walker.cur = some c) :
    Claims.Becomes (exec .walkerLeaving s) (if alt then leaveThroughAlt c s else leaveNormally c s) := by
  have hkind : WalkStep.isLeave s.walker.next = true := by
    rw [hnext]
    cases alt <;> rfl
  rw [exec_walkerLeaving]
  refine event_becomes (by rw [walkerDue_of hst hkind, hcur]; rfl) ?_
  rw [hcur]
  change (if s.walker.next = .leaveAlt then leaveThroughAlt c s else leaveNormally c s) = _
  rw [hnext]
  cases alt <;> rfl

/-- The entry that leaves through ALT closes a loop only as its own opener. -/
theorem closesOwnLoop_iff (c : CurrentEntry) (stack : List LoopElem) :
    closesOwnLoop c stack = true ↔ c.img[6].getLsbD 3 = true ∧ c.img[6].getLsbD 2 = true ∧
      ∃ top rest, stack = top :: rest ∧ top.entry = c.idx := by
  cases stack with
  | nil => simp [closesOwnLoop]
  | cons top rest =>
    simp only [closesOwnLoop, segLoopOpen, segLoopClose, Bool.and_eq_true, beq_iff_eq, List.cons.injEq]
    constructor
    · rintro ⟨⟨hopen, hclose⟩, htop⟩
      exact ⟨hclose, hopen, top, rest, ⟨rfl, rfl⟩, htop⟩
    · rintro ⟨hclose, hopen, _, _, ⟨rfl, rfl⟩, htop⟩
      exact ⟨⟨hopen, hclose⟩, htop⟩

/-- The leaving closes a loop (R65 step 1, R76). -/
def closesLoop (alt : Bool) (c : CurrentEntry) (s : State) : Prop :=
  c.img[6].getLsbD 3 = true ∧
    (alt = true → c.img[6].getLsbD 2 = true ∧ ∃ top rest, s.walker.stack = top :: rest ∧ top.entry = c.idx)

/-- The link that the leaving follows. -/
def leavingLink (alt : Bool) (c : CurrentEntry) : BitVec 7 := if alt then segAlt c.img else segNext c.img

/-- The position that a fault of the leaving names. -/
def leavingTags (alt : Bool) (c : CurrentEntry) (s : State) : Tags :=
  if alt then ⟨BitVec.ofNat 7 c.idx.val, 0, 0, s.walker.tags.pass⟩ else s.walker.tags

theorem leaving_closes {alt : Bool} {c : CurrentEntry} {s : State} (hcloses : closesLoop alt c s) :
    (if alt then leaveThroughAlt c s else leaveNormally c s) =
      leaveClosing c.idx (linkOf (leavingLink alt c)) (leavingTags alt c s) s := by
  obtain ⟨hclose, hown⟩ := hcloses
  cases alt with
  | false =>
    change leaveNormally c s = _
    rw [leaveNormally, segLoopClose, if_pos hclose]
    rfl
  | true =>
    change leaveThroughAlt c s = _
    rw [leaveThroughAlt, if_pos ((closesOwnLoop_iff c _).mpr ⟨hclose, hown rfl⟩)]
    rfl

theorem leaving_open {alt : Bool} {c : CurrentEntry} {s : State} (hopen : ¬ closesLoop alt c s) :
    (if alt then leaveThroughAlt c s else leaveNormally c s) =
      leaveOpen c.idx (linkOf (leavingLink alt c)) (leavingTags alt c s) s := by
  cases alt with
  | false =>
    have hclose : ¬ c.img[6].getLsbD 3 = true := fun h => hopen ⟨h, nofun⟩
    change leaveNormally c s = _
    rw [leaveNormally, segLoopClose, if_neg hclose]
    rfl
  | true =>
    have hown : ¬ closesOwnLoop c s.walker.stack = true := fun h =>
      hopen ⟨((closesOwnLoop_iff c _).mp h).1, fun _ => ((closesOwnLoop_iff c _).mp h).2⟩
    change leaveThroughAlt c s = _
    rw [leaveThroughAlt, if_neg hown]
    rfl

/-- Settles O52: whether a loop is closed, whether the stack is empty, and whether passes remain. -/
theorem walkerLeavingFollowsTheChain : Obligations.WalkerLeavingFollowsTheChain := by
  intro s c alt hreset hst hnext hcur e i dest tags closes hdest
  have hbecomes := walkerLeaving_becomes alt hst hnext hcur
  have hlink : (leavingLink alt c).toNat = dest := by cases alt <;> rfl
  have htags : leavingTags alt c s = tags := by cases alt <;> rfl
  rw [← hlink] at hdest ⊢
  rw [← htags]
  refine ⟨fun hopen hout => ?_, fun hopen hend hloops => ?_, fun hclosing hstack => ?_,
    fun top rest hclosing hstack hpasses => ?_, fun top rest hclosing hstack hlast => ⟨fun hend hloops => ?_, fun hout => ?_⟩⟩
  · exact becomes_of_eq hbecomes ((leaving_open hopen).trans (leaveOpen_follows hreset _ hdest hout))
  · exact becomes_of_eq hbecomes ((leaving_open hopen).trans (leaveOpen_unclosed _ hend hloops))
  · exact becomes_of_eq hbecomes ((leaving_closes hclosing).trans (leaveClosing_underflow _ hstack))
  · exact becomes_of_eq hbecomes ((leaving_closes hclosing).trans (leaveClosing_loopBack hreset _ hstack hpasses))
  · exact becomes_of_eq hbecomes ((leaving_closes hclosing).trans (leaveClosing_unclosed _ hstack hlast hend hloops))
  · refine becomes_of_eq hbecomes ((leaving_closes hclosing).trans ((leaveClosing_pops hreset _ hstack hlast hdest hout).trans ?_))
    cases rest <;> rfl

end Sys2Proof.Machine
end

section
/-! The taking of the head item, the beginning of streams and the end of periods (R73, R82 to R87, R95 to R98, R107 to R111,
R155 to R157). -/

namespace Sys2Proof.Machine

/-! ## Trigger lines in a mode -/

/-- A sum over a list taken by a fold from the left. -/
theorem foldl_ite_eq_sum {α : Type} (c : α → Prop) [DecidablePred c] (w : α → Nat) (xs : List α) (n : Nat) :
    xs.foldl (fun n x => if c x then n + w x else n) n = n + (xs.map fun x => if c x then w x else 0).sum := by
  induction xs generalizing n with
  | nil => simp
  | cons x xs ih =>
    rw [List.foldl_cons, ih, List.map_cons, List.sum_cons]
    split
    · omega
    · omega

theorem finRange_four : List.finRange 4 = all4 := by decide

theorem linesIn_eq (s : State) (m : TrgMode) : linesIn s m = Claims.linesOf s m := by
  unfold linesIn Claims.linesOf
  rw [foldl_ite_eq_sum (fun j : Fin 4 => s.trig.lines[j].mode = m) (fun j : Fin 4 => 2 ^ j.val), finRange_four, Nat.zero_add]

theorem linesOn_eq (m : TrgMode) (s : State) :
    linesOn m s = { s with trig.active := s.trig.active ||| Claims.linesOf s m } := by
  rw [linesOn, linesIn_eq]

theorem periodStartIndication_eq (s : State) :
    periodStartIndication s =
      { s with trig.active := s.trig.active &&& ~~~Claims.linesOf s .outMark &&& ~~~Claims.linesOf s .outFail } := by
  rw [periodStartIndication, linesOff, linesOff, linesIn_eq, linesIn_eq]
  rfl

/-! ## The breakpoint test -/

theorem hits_iff (b : Breakpoint) (t : Tags) : b.hits t = true ↔ Claims.breaks b t := by
  have hseg : b.seg.toNat = t.seg.toNat ↔ b.seg.setWidth 7 = t.seg := by
    have hlt := b.seg.isLt
    rw [← BitVec.toNat_inj, BitVec.toNat_setWidth, Nat.mod_eq_of_lt (by omega)]
  unfold Breakpoint.hits Claims.breaks
  simp only [Bool.and_eq_true, Bool.or_eq_true, Bool.not_eq_true', beq_iff_eq, hseg, and_assoc, ← Bool.not_eq_true,
    imp_iff_not_or]

/-- No unit matches, unit 0 matches, or unit 1 alone does. -/
theorem breakCause_eq (s : State) (t : Tags) [Decidable (Claims.breaks s.run.bp[0] t)]
    [Decidable (Claims.breaks s.run.bp[1] t)] :
    breakCause s t =
      if Claims.breaks s.run.bp[0] t then some .break0 else if Claims.breaks s.run.bp[1] t then some .break1 else none :=
  if_congr (hits_iff _ _) rfl (if_congr (hits_iff _ _) rfl rfl)

/-! ## The taking, item by item -/

section
variable {s : State}

theorem taking_vector {v : DecodedVector} {t : Tags} {eop : Bool} {rest : List Item}
    (hqueue : s.queue = .vector v t eop :: rest) : taking s = takeVector v t eop rest s := by
  rw [taking, hqueue]

theorem taking_wait {w : WaitItem} {t : Tags} {rest : List Item} (hqueue : s.queue = .wait w t :: rest) :
    taking s = takeWait w t rest s := by
  rw [taking, hqueue]

theorem taking_endChain {t : Tags} {rest : List Item} (hqueue : s.queue = .endChain t :: rest) :
    taking s = Claims.stopping .complete s.run.fault s := by
  rw [taking, hqueue]
  exact stopRun_eq (by decide) _

theorem taking_fault {code : FaultCode} {t : Tags} {rest : List Item} (hqueue : s.queue = .fault code t :: rest) :
    taking s = Claims.stopping .fault ⟨code, t⟩ s := by
  rw [taking, hqueue]
  exact stopOnFault_eq code t _

theorem taking_empty (hqueue : s.queue = []) : taking s = takeEmpty s := by
  rw [taking, hqueue]

/-- A vector before which a breakpoint pauses. -/
theorem takeVector_breaks {v : DecodedVector} {t : Tags} {eop : Bool} {rest : List Item} {cause : Cause}
    (hreset : s.resetLow = false) (hskip : s.app.skipOnce = false) (hbreak : breakCause s t = some cause) :
    takeVector v t eop rest s = Claims.paused cause { s with app.skipOnce := true, run.stepReq := false } := by
  unfold takeVector
  rw [hskip, if_neg (by decide), hbreak]
  exact enterPaused_eq (s := { s with app.skipOnce := true, run.stepReq := false }) hreset

/-- A vector that no breakpoint holds back begins its period. -/
theorem takeVector_begins {v : DecodedVector} {t : Tags} {eop : Bool} {rest : List Item}
    (hnone : s.app.skipOnce = true ∨ breakCause s t = none) :
    takeVector v t eop rest s = beginPeriod v t eop (Claims.headTaken rest s) := by
  unfold takeVector
  obtain h | h := hnone
  · rw [h, if_pos rfl]
    rfl
  · rw [h, ite_self]
    rfl

end

/-- Settles O53: the taking by the head item, a vector's by the two breakpoint units. -/
theorem takingActsByTheHeadItem : Obligations.TakingActsByTheHeadItem := by
  classical
  intro s hreset
  refine ⟨fun v t eop rest hqueue => ?vector, fun w t rest hqueue => ?wait, fun t rest => taking_endChain,
    fun code t rest => taking_fault, fun hqueue hstalled => ?starved, fun hqueue hnot => ?underrun⟩
  case vector =>
    intro brk
    refine ⟨fun hskip h0 => ?_, fun hskip h0 h1 => ?_, fun hnone => ?_⟩
    · rw [taking_vector hqueue]
      exact takeVector_breaks hreset hskip (by rw [breakCause_eq, if_pos h0])
    · rw [taking_vector hqueue]
      exact takeVector_breaks hreset hskip (by rw [breakCause_eq, if_neg h0, if_pos h1])
    · have hpasses : s.app.skipOnce = true ∨ breakCause s t = none :=
        hnone.imp (fun h => Bool.not_eq_false _ ▸ h) fun h => by rw [breakCause_eq, if_neg h.1, if_neg h.2]
      rw [taking_vector hqueue, takeVector_begins hpasses, beginPeriod, periodStartIndication_eq]
      rfl
  case wait =>
    rw [taking_wait hqueue, takeWait, enterWaiting_eq]
    · cases w.kind <;> rfl
    · exact hreset
  case starved =>
    rw [taking_empty hqueue, takeEmpty, if_pos hstalled]
    exact enterWaiting_eq (s := { s with run.starve := some 0 }) hreset
  case underrun =>
    rw [taking_empty hqueue, takeEmpty, if_neg hnot, stopOnFault_eq, walkerPosition]
    cases s.walker.next <;> rfl

/-! ## Streams and periods -/

theorem exec_streamBegin (s : State) : exec .streamBegin s = execStreamBegin s := rfl
theorem exec_periodEnd (s : State) : exec .periodEnd s = execPeriodEnd s := rfl

theorem primed_iff (s : State) : primed s = true ↔ 8 ≤ s.queue.length ∨ s.walker.st ≠ .walking := by
  simp [primed]

/-- A period event of the current vector. -/
theorem periodEvent_becomes {cond : Period → Bool} {f : Period → State → State} {s t : State} {p : Period}
    (hperiod : s.app.period = some p) (hcond : cond p = true) (heffect : f p s = t) :
    Claims.Becomes (eventStep (periodIs cond s) (fun s => match s.app.period with | some p => f p s | none => s) s) t :=
  event_becomes (periodIs_iff.mpr ⟨p, hperiod, hcond⟩) (by rw [hperiod]; exact heffect)

/-- The state in which a period ends. -/
def periodEnded (p : Period) (s : State) : State :=
  { s with
    app.period := none
    app.passdone := if p.endOfPass then ⟨p.tags.seg, p.tags.iter, p.tags.pass⟩ else s.app.passdone }

theorem updatePassdone_eq (p : Period) (s : State) : { updatePassdone p s with app.period := none } = periodEnded p s := by
  unfold updatePassdone periodEnded
  cases p.endOfPass <;> rfl

theorem endPeriod_eq (p : Period) (s : State) :
    endPeriod p s =
      if s.run.stopReq = true then stopRun .failLimit (periodEnded p s)
      else match pauseCause s with
        | some cause => pauseAtEnd cause (periodEnded p s)
        | none => taking (periodEnded p s) := by
  unfold endPeriod
  rw [updatePassdone_eq]
  rfl

theorem endPeriod_pauses {p : Period} {s : State} {cause : Cause} (hreset : s.resetLow = false)
    (hstop : s.run.stopReq = false) (hpause : pauseCause s = some cause) :
    endPeriod p s = Claims.paused cause
      { periodEnded p s with run.pauseFail := false, run.pauseHost := false, run.pauseStep := false } := by
  rw [endPeriod_eq, hstop, if_neg (by decide), hpause]
  exact enterPaused_eq
    (s := { periodEnded p s with run.pauseFail := false, run.pauseHost := false, run.pauseStep := false }) hreset

theorem streamBeginAndPeriodEndAct : Claims.StreamBeginAndPeriodEndAct := by
  intro s hreset
  refine ⟨fun hstream hstate hprimed => ?_, fun p hperiod hdriven hstrobed => ?_⟩
  · rw [exec_streamBegin]
    exact event_becomes (by rw [hstream, hstate, (primed_iff s).mpr hprimed]; rfl) rfl
  have hends : ∀ {t}, endPeriod p s = t → Claims.Becomes (exec .periodEnd s) t := fun heffect => by
    rw [exec_periodEnd]
    exact periodEvent_becomes hperiod (by rw [periodOver, hdriven, hstrobed]; rfl) heffect
  refine ⟨fun hstop => hends ?_, fun hstop hfail => hends ?_, fun hstop hfail hhost => hends ?_,
    fun hstop hfail hhost hstep => hends ?_, fun hstop hfail hhost hstep => hends ?_⟩
  · rw [endPeriod_eq, if_pos hstop]
    exact stopRun_eq (by decide) _
  · exact endPeriod_pauses hreset hstop (by rw [pauseCause, if_pos hfail])
  · exact endPeriod_pauses hreset hstop (by rw [pauseCause, hfail, if_neg (by decide), if_pos hhost])
  · exact endPeriod_pauses hreset hstop (by rw [pauseCause, hfail, if_neg (by decide), hhost, if_neg (by decide), if_pos hstep])
  · rw [endPeriod_eq, hstop, if_neg (by decide), pauseCause, hfail, if_neg (by decide), hhost, if_neg (by decide), hstep]
    rfl

/-- Settles O54. -/
theorem streamsBeginAndPeriodsEndInOrder : Obligations.StreamsBeginAndPeriodsEndInOrder :=
  ⟨streamBeginAndPeriodEndAct, primed_iff⟩

end Sys2Proof.Machine
end

section
/-! Records produced, the samples, periods and timeouts of waits, and trigger edges (R75, R105, R112 to R117, R130 to R132,
R152 to R154). -/

namespace Sys2Proof.Machine

/-! ## Records (R130, R131) -/

theorem satAdd_one (c : Word) : satAdd c 1 = if c = 0xFFFFFFFF#32 then 0xFFFFFFFF#32 else c + 1 := by
  have hmax : c = 0xFFFFFFFF#32 ↔ ¬ c.toNat + 1 < 2 ^ 32 := by
    have hlt := c.isLt
    rw [← BitVec.toNat_inj]
    change c.toNat = 4294967295 ↔ _
    omega
  unfold satAdd
  by_cases h : c.toNat + 1 < 2 ^ 32
  · rw [if_pos h, if_neg (mt hmax.mp (not_not.mpr h))]
    rfl
  · rw [if_neg h, if_pos (hmax.mpr h)]

theorem produceRecord_eq {s : State} (hreset : s.resetLow = false) (r : LogRecord) :
    produceRecord r s = Claims.produced r s := by
  unfold produceRecord Claims.produced
  by_cases hroom : s.log.fifo.length < 16
  · exact (if_pos hroom).trans (if_pos hroom).symm
  · refine (if_neg hroom).trans (Eq.trans ?_ (if_neg hroom).symm)
    rw [← satAdd_one]
    exact raise_of_reset_high .logDrop hreset

/-- The production of a record touches the log alone, so a change of the wait commutes with it. -/
theorem produced_withWait (r : LogRecord) (w w' : Option WaitProgress) (s : State) :
    { Claims.produced r { s with app.wait := w } with app.wait := w' } = { Claims.produced r s with app.wait := w' } := by
  unfold Claims.produced
  by_cases hroom : s.log.fifo.length < 16
  · rw [if_pos hroom, if_pos hroom]
  · rw [if_neg hroom, if_neg hroom]
    rfl

theorem produced_walker (r : LogRecord) (s : State) : (Claims.produced r s).walker = s.walker := by
  unfold Claims.produced
  split
  · rfl
  · rfl

/-! ## Waits -/

/-- The state in which the applier enters PRIMING. -/
def priming (s : State) : State :=
  { s with run.state := .running, run.cause := .none, run.suspended := none, app.stream := .priming }

theorem enterPriming_eq (s : State) : enterPriming s = if primed (priming s) then taking (priming s) else priming s := rfl

theorem enterPriming_of_priming {s t : State} (h : priming s = t) : enterPriming s = if primed t then taking t else t :=
  h ▸ enterPriming_eq s

/-- The walker behind a SKIP wait goes on to the records from BASE. -/
theorem skipSatisfied_eq (s : State) :
    skipSatisfied s =
      { s with
        walker.st := if s.walker.st = .stallWait then .walking else s.walker.st
        walker.fetchAddr := match s.walker.cur with
          | some c => if s.walker.st = .stallWait then Claims.base c.img else s.walker.fetchAddr
          | none => s.walker.fetchAddr } := by
  unfold skipSatisfied
  by_cases hst : s.walker.st = .stallWait
  · simp only [if_pos hst]
    cases hcur : s.walker.cur with
    | none => rfl
    | some c => simp only [startIteration, segBase_eq]
  · simp only [if_neg hst]
    split
    · rfl
    · rfl

theorem satisfyWait_eq (w : WaitProgress) (s : State) : satisfyWait w s = Claims.waitSatisfied w s := by
  unfold satisfyWait Claims.waitSatisfied
  refine enterPriming_of_priming ?_
  cases hskip : w.item.skip with
  | false =>
    simp only [Bool.false_eq_true, false_and, if_false]
    split
    · rfl
    · rfl
  | true =>
    simp only [true_and, if_true]
    rw [skipSatisfied_eq]
    rfl

theorem exec_matchSample (pads : Vector HW 4) (s : State) : exec (.matchSample pads) s = execMatchSample pads s := rfl
theorem exec_waitPeriodEnd (s : State) : exec .waitPeriodEnd s = execWaitPeriodEnd s := rfl
theorem exec_starvetoExpiry (s : State) : exec .starvetoExpiry s = execStarvetoExpiry s := rfl

/-- An event of the wait being made. -/
theorem waitEvent_becomes {cond : WaitProgress → Bool} {f : WaitProgress → State → State} {s t : State} {w : WaitProgress}
    (hstate : s.run.state = .waiting) (hcause : s.run.cause ≠ .notReady) (hwait : s.app.wait = some w)
    (hcond : cond w = true) (heffect : f w s = t) :
    Claims.Becomes (eventStep (waitIs cond s) (fun s => match s.app.wait with | some w => f w s | none => s) s) t :=
  event_becomes (waitIs_iff.mpr ⟨hstate, hcause, w, hwait, hcond⟩) (by rw [hwait]; exact heffect)

theorem matchMismatch_eq (item : WaitItem) (seen : HW) : matchMismatch item seen = (seen ^^^ item.mexp) &&& item.mcare :=
  BitVec.and_comm _ _

theorem matchSampleSatisfiesTheWait : Claims.MatchSampleSatisfiesTheWait := by
  intro s w pads hstate hcause hwait hkind hsampled seen mismatch w' t
  rw [exec_matchSample]
  refine waitEvent_becomes hstate hcause hwait (by rw [sampleDue, hkind, hsampled]; rfl) ?_
  unfold matchSample
  simp only [matchMismatch_eq, satisfyWait_eq]
  rfl

theorem exec_endWait {s t : State} {w : WaitProgress} (hstate : s.run.state = .waiting) (hcause : s.run.cause ≠ .notReady)
    (hwait : s.app.wait = some w) (hover : w.item.kind = .trigger ∨ w.sampled = true) (heffect : endWaitPeriod w s = t) :
    Claims.Becomes (exec .waitPeriodEnd s) t := by
  rw [exec_waitPeriodEnd]
  refine waitEvent_becomes hstate hcause hwait ?_ heffect
  rw [waitPeriodOver, Bool.or_eq_true, beq_iff_eq]
  exact hover

/-- A wait whose limit is reached. -/
theorem endWaitPeriod_timesOut {s : State} {w : WaitProgress} (hlimit : w.item.timeout ≠ 0) (hlast : w.remaining - 1 = 0) :
    endWaitPeriod w s =
      timeoutWait { w with tick := 0, sampled := false, remaining := w.remaining - 1 }
        { s with app.wait := some { w with tick := 0, sampled := false, remaining := w.remaining - 1 } } := by
  unfold endWaitPeriod
  exact (if_neg hlimit).trans (if_pos hlast)

/-- What a timeout does, the state given in which the record has been produced and the wait cleared. -/
theorem timeoutWait_eq {s : State} (hreset : s.resetLow = false) {w : WaitProgress} {v : Option WaitProgress} :
    timeoutWait w { s with app.wait := v } =
      if w.item.skip = true then enterPriming (skipTimedOut { Claims.produced (timeoutRecord w s) s with app.wait := none })
      else stopOnFault .waitTimeout w.tags { Claims.produced (timeoutRecord w s) s with app.wait := none } := by
  unfold timeoutWait
  rw [produceRecord_eq (s := { s with app.wait := v }) hreset]
  simp only [produced_withWait]
  rfl

theorem waitsTimeOut : Claims.WaitsTimeOut := by
  intro s hreset hstate
  refine ⟨fun w hcause hwait hover => ?_, fun i hcause hlimit hpend => ?_⟩
  · intro left next record timedOut
    have hends : ∀ {t}, endWaitPeriod w s = t → Claims.Becomes (exec .waitPeriodEnd s) t :=
      exec_endWait hstate hcause hwait hover
    refine ⟨fun hnone => hends (if_pos hnone), fun hlimit hleft => hends ((if_neg hlimit).trans (if_neg hleft)),
      fun hlimit hlast hfault => hends ?_, fun hlimit hlast hskip => hends ?_⟩
    · have hnot : ¬ w.item.skip = true := Bool.eq_false_iff.mp hfault
      rw [endWaitPeriod_timesOut hlimit hlast, timeoutWait_eq hreset]
      exact (if_neg hnot).trans (stopOnFault_eq _ _ _)
    · rw [endWaitPeriod_timesOut hlimit hlast, timeoutWait_eq hreset]
      refine (if_pos hskip).trans (enterPriming_of_priming ?_)
      have hwalker : timedOut.walker = s.walker := produced_walker record s
      change priming (skipTimedOut timedOut) = priming (if s.walker.st = .stallWait then _ else timedOut)
      rw [skipTimedOut, hwalker]
  · have hruns : starvetoRuns s = true := by
      rw [starvetoRuns, hstate, hcause, bne_iff_ne.mpr hlimit]
      rfl
    rw [exec_starvetoExpiry]
    refine event_becomes hruns ?_
    rw [starvePosition, hpend]
    exact stopOnFault_eq _ _ _

/-- Settles O57. -/
theorem waitsAreSatisfiedOrTimeOut : Obligations.WaitsAreSatisfiedOrTimeOut := ⟨matchSampleSatisfiesTheWait, waitsTimeOut⟩

/-! ## Trigger edges -/

theorem exec_triggerEdge (j : Line) (rising : Bool) (s : State) : exec (.triggerEdge j rising) s = execTriggerEdge j rising s :=
  rfl

theorem selects_iff (e : TrgEdge) (rising : Bool) :
    e.selects rising = true ↔ e = .both ∨ e = if rising then .rise else .fall := by
  cases e <;> cases rising <;> decide

theorem edgeTaken_iff (j : Line) (rising : Bool) (s : State) :
    edgeTaken j rising s = true ↔ s.resetLow = false ∧ s.trig.lines[j].mode = .input ∧
      (s.trig.lines[j].edge = .both ∨ s.trig.lines[j].edge = if rising then .rise else .fall) := by
  rw [edgeTaken, Bool.and_eq_true, Bool.and_eq_true, Bool.not_eq_true', beq_iff_eq, selects_iff, and_assoc]

section
variable {s : State} {j : Line}

/-- An edge offered in ARMED. -/
theorem offerEdge_of_armed (hstate : s.run.state = .armed) (hline : s.run.armcfg = j) : offerEdge j s = armEdge s :=
  (if_pos hstate).trans (if_pos hline.symm)

/-- An edge offered to the wait being made. -/
theorem offerEdge_of_waiting {w : WaitProgress} (hstate : s.run.state = .waiting) (hcause : s.run.cause = .trigger)
    (hwait : s.app.wait = some w) (hkind : w.item.kind = .trigger) (hline : w.item.line = j) :
    offerEdge j s = Claims.waitSatisfied w s := by
  have hnot : s.run.state ≠ .armed := by rw [hstate]; decide
  refine (if_neg hnot).trans ((if_pos ⟨hstate, hcause⟩).trans ?_)
  rw [waitEdge, hwait]
  exact (if_pos ⟨hkind, hline⟩).trans (satisfyWait_eq w s)

/-- An edge that nothing waits for. -/
theorem offerEdge_of_neither (hstarts : ¬ (s.run.state = .armed ∧ s.run.armcfg = j))
    (hawaited : ∀ w : WaitProgress, ¬ (s.run.state = .waiting ∧ s.run.cause = .trigger ∧ s.app.wait = some w ∧
      w.item.kind = .trigger ∧ w.item.line = j)) : offerEdge j s = s := by
  unfold offerEdge
  by_cases harmed : s.run.state = .armed
  · rw [if_pos harmed, if_neg fun hline => hstarts ⟨harmed, hline.symm⟩]
  rw [if_neg harmed]
  by_cases hwaiting : s.run.state = .waiting ∧ s.run.cause = .trigger
  · rw [if_pos hwaiting, waitEdge]
    cases hwait : s.app.wait with
    | none => rfl
    | some w => exact if_neg fun hmatch => hawaited w ⟨hwaiting.1, hwaiting.2, hwait, hmatch⟩
  · rw [if_neg hwaiting]

end

/-- Settles O58: an edge that is taken is latched, then offered by what the sequencer waits for. -/
theorem triggerEdgesAreLatchedAndOffered : Obligations.TriggerEdgesAreLatchedAndOffered := by
  intro s j rising l selected t row starts awaited
  have hselected : edgeTaken j rising s = true ↔ selected := edgeTaken_iff j rising s
  have htaken : selected → ∀ {u}, offerEdge j t = u → Claims.Becomes row u := fun hsel u heffect => by
    change Claims.Becomes (exec (.triggerEdge j rising) s) u
    rw [exec_triggerEdge]
    refine event_becomes (hselected.mpr hsel) ?_
    rw [raise_of_reset_high .trgEdge (s := { s with trig.latch := s.trig.latch ||| BitVec.ofNat 4 (2 ^ j.val) }) hsel.1]
    exact heffect
  refine ⟨fun hnot => ?_, fun hsel hstarts hprimed => htaken hsel ?_, fun hsel hstarts hunprimed => htaken hsel ?_,
    fun w hsel hawaited => htaken hsel ?_, fun hsel hstarts hawaited => htaken hsel ?_⟩
  · change exec (.triggerEdge j rising) s = _
    rw [exec_triggerEdge, execTriggerEdge, Bool.eq_false_iff.mpr (mt hselected.mp hnot), eventStep_absent]
  · have hprimed : primed t = true := hprimed
    refine (offerEdge_of_armed (s := t) hstarts.1 hstarts.2).trans ((if_pos hprimed).trans ?_)
    rw [linesOn_eq]
    rfl
  · have hunprimed : ¬ primed t = true := Bool.eq_false_iff.mp hunprimed
    exact (offerEdge_of_armed (s := t) hstarts.1 hstarts.2).trans
      ((if_neg hunprimed).trans (raise_of_reset_high .earlyTrigger (s := t) hsel.1))
  · obtain ⟨hstate, hcause, hwait, hkind, hline⟩ := hawaited
    exact offerEdge_of_waiting hstate hcause hwait hkind hline
  · exact offerEdge_of_neither hstarts hawaited

end Sys2Proof.Machine
end

section
/-! The drive edge and the strobe of a vector's period (R7, R15, R88 to R94, R120, R156, R157). -/

namespace Sys2Proof.Machine

theorem exec_driveEdge (s : State) : exec .driveEdge s = execDriveEdge s := rfl
theorem exec_strobe (pads : Vector HW 4) (s : State) : exec (.strobe pads) s = execStrobe pads s := rfl

theorem strobeFirst_iff (p : Period) : strobeFirst p = true ↔ p.vec.timing.stb.toNat ≤ p.vec.timing.drv.toNat := by
  simp [strobeFirst]

/-! ## The drive edge -/

theorem drivePort_some (q : PortPart) (pins : PinState) :
    drivePort (some q) pins = ⟨q.dir, (q.dir &&& q.data) ||| (~~~q.dir &&& pins.level)⟩ := by
  rw [drivePort, BitVec.and_comm q.data, BitVec.and_comm pins.level]

theorem driveDue_of {p : Period} (hdriven : p.driven = false)
    (horder : p.strobed = true ∨ p.vec.timing.drv.toNat < p.vec.timing.stb.toNat) : driveDue p = true := by
  rw [driveDue, hdriven, Bool.not_false, Bool.true_and, Bool.or_eq_true, Bool.not_eq_true', ← Bool.not_eq_true, strobeFirst_iff]
  exact horder.symm.imp Nat.not_le.mpr id

/-- Settles O55: the pins port by port, then the mark indication. -/
theorem driveEdgeMovesPresentPortsPins : Obligations.DriveEdgeMovesPresentPortsPins := by
  intro s p hperiod hdriven horder
  refine ⟨vec4 fun k => drivePort p.vec.parts[k] s.ports.pins[k], fun k => ?_, ?_⟩
  · rw [getElem_vec4]
    cases p.vec.parts[k] with
    | none => rfl
    | some q => exact drivePort_some q _
  · rw [exec_driveEdge]
    refine periodEvent_becomes hperiod (driveDue_of hdriven horder) ?_
    unfold driveEdge
    cases p.vec.mark with
    | false => rfl
    | true =>
      refine (if_pos rfl).trans ?_
      rw [linesOn_eq]
      rfl

/-! ## The ports that fail -/

/-- A mask is the sum of its bits. -/
theorem ofNat_sum_bits {c : Fin 4 → Bool} {m : BitVec 4} (hbits : ∀ k : Fin 4, m.getLsbD k.val = c k) :
    BitVec.ofNat 4 ((all4.map fun k => if c k then 2 ^ k.val else 0).sum) = m := by
  obtain rfl : (fun k : Fin 4 => m.getLsbD k.val) = c := funext hbits
  revert m
  decide

/-- A lane-result word that names a failure. -/
def failsWith (r : Option HW) : Bool :=
  match r with
  | some w => w != 0
  | none => false

theorem failsWith_iff (r : Option HW) : failsWith r = true ↔ ∃ w, r = some w ∧ w ≠ 0 := by
  cases r <;> simp [failsWith]

theorem failingPorts_eq {results : Vector (Option HW) 4} {failing : BitVec 4}
    (hbits : ∀ k : Fin 4, failing.getLsbD k.val = failsWith results[k]) : failingPorts results = failing := by
  rw [← ofNat_sum_bits hbits]
  unfold failingPorts
  refine congrArg (fun l => BitVec.ofNat 4 (List.sum l)) (List.map_congr_left fun k _ => ?_)
  cases results[k] with
  | none => rfl
  | some w => by_cases hw : w = 0 <;> simp [failsWith, hw]

theorem presentPorts_eq {results : Vector (Option HW) 4} {present : BitVec 4}
    (hbits : ∀ k : Fin 4, present.getLsbD k.val = results[k].isSome) : presentPorts results = present := by
  rw [← ofNat_sum_bits hbits]
  rfl

/-! ## The strobe -/

/-- The record of a vector, from the results port by port. -/
theorem vectorRecord_eq {results : Vector (Option HW) 4} {result : Port → Option HW} (hresult : ∀ k : Fin 4, results[k] = result k)
    (kind : RecordKind) (p : Period) (mask : BitVec 4) (pads : Vector HW 4) :
    vectorRecord kind p mask results pads = Claims.vectorRecord kind p result mask pads := by
  unfold vectorRecord Claims.vectorRecord resultParts
  simp only [finRange_four, hresult]

/-- The state of a counted failure (R91, R94, R120). -/
def failureCounted (p : Period) (s : State) : State :=
  let count := if s.app.failcount = 0xFFFFFFFF#32 then 0xFFFFFFFF#32 else s.app.failcount + 1
  let f := { s with app.failcount := count, trig.active := s.trig.active ||| Claims.linesOf s .outFail }
  let f := if s.app.failcount = 0 then Claims.withFlag 4 { f with app.firstfail := ⟨p.tags, p.vnum⟩ } else f
  if s.run.faillimit ≠ 0 ∧ count = s.run.faillimit.setWidth 32 then { f with run.stopReq := true }
  else if s.run.failPause then { f with run.pauseFail := true } else f

theorem failRequest_congr {s f : State} (hrun : f.run = s.run) :
    failRequest f =
      if s.run.faillimit ≠ 0 ∧ f.app.failcount = s.run.faillimit.setWidth 32 then { f with run.stopReq := true }
      else if s.run.failPause then { f with run.pauseFail := true } else f := by
  have hlimit : f.app.failcount.toNat = s.run.faillimit.toNat ↔ f.app.failcount = s.run.faillimit.setWidth 32 := by
    have hlt := s.run.faillimit.isLt
    rw [← BitVec.toNat_inj, BitVec.toNat_setWidth, Nat.mod_eq_of_lt (by omega)]
  unfold failRequest
  rw [hrun]
  exact if_congr (and_congr_right fun _ => hlimit) rfl rfl

theorem countFailure_eq {s : State} (hreset : s.resetLow = false) (p : Period) : countFailure p s = failureCounted p s := by
  unfold countFailure failureCounted
  rw [← satAdd_one, linesOn_eq]
  by_cases hfirst : s.app.failcount = 0
  · simp only [if_pos hfirst]
    refine Eq.trans (congrArg failRequest (raise_of_reset_high .firstFail ?_)) (failRequest_congr rfl)
    exact hreset
  · simp only [if_neg hfirst]
    exact failRequest_congr rfl

theorem failureCounted_resetLow {s : State} (hreset : s.resetLow = false) (p : Period) :
    (failureCounted p s).resetLow = false := by
  rw [← countFailure_eq hreset]
  simpa using hreset

theorem produced_resetLow (r : LogRecord) (s : State) : (Claims.produced r s).resetLow = s.resetLow := by
  unfold Claims.produced
  split <;> rfl

theorem strobeDue_of {p : Period} (hstrobed : p.strobed = false)
    (horder : p.driven = true ∨ p.vec.timing.stb.toNat ≤ p.vec.timing.drv.toNat) : strobeDue p = true := by
  rw [strobeDue, hstrobed, Bool.not_false, Bool.true_and, Bool.or_eq_true, strobeFirst_iff]
  exact horder.symm

/-- Settles O56: the failing ports, the count, then the two records. -/
theorem strobeJudgesAndRecords : Obligations.StrobeJudgesAndRecords := by
  intro s p pads hreset hperiod hstrobed horder result failing present hfailing hpresent
  have hresult : ∀ k : Fin 4, (laneResults s p.vec pads)[k] = result k := fun k => getElem_vec4 _ k
  have hfails : failingPorts (laneResults s p.vec pads) = failing := failingPorts_eq fun k =>
    Bool.eq_iff_iff.mpr ((hfailing k).trans ((failsWith_iff _).symm.trans (by rw [hresult])))
  have hpresents : presentPorts (laneResults s p.vec pads) = present := presentPorts_eq fun k =>
    Bool.eq_iff_iff.mpr ((hpresent k).trans (by rw [hresult, Option.isSome_iff_ne_none]))
  intro t
  change Claims.Becomes (exec (.strobe pads) s)
    (if p.vec.capture then Claims.produced (Claims.vectorRecord .capture p result present pads)
        (if failing = 0 then t else Claims.produced (Claims.vectorRecord .fail p result failing pads) (failureCounted p t))
     else (if failing = 0 then t
        else Claims.produced (Claims.vectorRecord .fail p result failing pads) (failureCounted p t)))
  rw [exec_strobe]
  refine periodEvent_becomes hperiod (strobeDue_of hstrobed horder) ?_
  have ht : t.resetLow = false := hreset
  have hcounted : (failureCounted p t).resetLow = false := failureCounted_resetLow ht p
  have hjudged : (if failing = 0 then t
      else produceRecord (vectorRecord .fail p failing (laneResults s p.vec pads) pads) (countFailure p t)) =
      if failing = 0 then t
      else Claims.produced (Claims.vectorRecord .fail p result failing pads) (failureCounted p t) := by
    rw [countFailure_eq ht, vectorRecord_eq hresult, produceRecord_eq hcounted]
  have hreset' : (if failing = 0 then t
      else Claims.produced (Claims.vectorRecord .fail p result failing pads) (failureCounted p t)).resetLow = false := by
    split
    · exact ht
    · rw [produced_resetLow, hcounted]
  unfold strobe
  simp only [hfails, hpresents]
  rw [hjudged, vectorRecord_eq hresult, produceRecord_eq hreset']

end Sys2Proof.Machine
end

section
/-! The publication of a record and the resets (R127, R136, R138 to R149, R172, R173, R190). -/

namespace Sys2Proof.Machine

theorem exec_recordPublication (s : State) : exec .recordPublication s = execRecordPublication s := rfl

/-! ## The halfwords of a record -/

/-- Concatenation as a sum of values. -/
theorem toNat_append_eq_add {n w : Nat} (x : BitVec n) (y : BitVec w) : (x ++ y).toNat = x.toNat * 2 ^ w + y.toNat := by
  rw [BitVec.toNat_append, Nat.shiftLeft_eq, Nat.mul_comm, ← Nat.two_pow_add_eq_or_of_lt y.isLt]

theorem recordKind_code (k : RecordKind) : Claims.code [RecordKind.fail, .capture, .timeout, .endRun] k 2 = BitVec.ofNat 2 k.code := by
  cases k <;> decide

theorem recordKind_code_lt (k : RecordKind) : k.code < 4 := by
  cases k <;> decide

theorem recordsArePackedInHalfwords : Claims.RecordsArePackedInHalfwords := by
  intro r hbody
  have hkind := recordKind_code_lt r.kind
  have hmask := r.mask.isLt
  have hseg := r.tags.seg.isLt
  have hset := r.tset.isLt
  have hiter := r.tags.iter.isLt
  have hfirst : BitVec.ofNat 16 (r.kind.code + 4 * r.length + 128 * r.mask.toNat) =
      0#5 ++ r.mask ++ BitVec.ofNat 5 (9 + r.body.length) ++ Claims.code [RecordKind.fail, .capture, .timeout, .endRun] r.kind 2 := by
    refine BitVec.eq_of_toNat_eq ?_
    rw [recordKind_code, toNat_append_eq_add, toNat_append_eq_add, toNat_append_eq_add]
    simp only [BitVec.toNat_ofNat, LogRecord.length]
    omega
  have htset : BitVec.ofNat 16 (r.tags.seg.toNat + 256 * r.tset.val) = 0#5 ++ BitVec.ofNat 3 r.tset.val ++ 0#1 ++ r.tags.seg := by
    refine BitVec.eq_of_toNat_eq ?_
    rw [toNat_append_eq_add, toNat_append_eq_add, toNat_append_eq_add]
    simp only [BitVec.toNat_ofNat]
    omega
  have hiteration : BitVec.ofNat 16 r.tags.iter.toNat = 0#4 ++ r.tags.iter := by
    refine BitVec.eq_of_toNat_eq ?_
    rw [toNat_append_eq_add]
    simp only [BitVec.toNat_ofNat]
    omega
  rw [LogRecord.halfwords, hfirst, htset, hiteration]
  rfl

/-! ## The publication -/

/-- The head record in the ring, LOGWP past it (R140). -/
def ringAdvanced (r : LogRecord) (rest : List LogRecord) (s : State) : State :=
  { s with
    mem.grant := none
    dram.cells := Claims.ringWritten s r.halfwords
    log.wp := BitVec.ofNat 24 ((s.log.wp.toNat + r.halfwords.length) % s.log.size.toNat), log.fifo := rest }

/-- The occupancy with LOGWP past the head record. -/
def nextOccupancy (r : LogRecord) (s : State) : Nat :=
  (((((s.log.wp.toNat + r.halfwords.length) % s.log.size.toNat : Nat) : Int) - s.log.rp.toNat) % s.log.size.toNat).toNat

/-- The state in which the head record has been published, LOG_LEVEL set when the occupancy reaches LOGLEVEL (R141). -/
def published (r : LogRecord) (rest : List LogRecord) (s : State) : State :=
  if s.log.level ≠ 0 ∧ s.log.level.toNat ≤ nextOccupancy r s then Claims.withFlag 5 (ringAdvanced r rest s)
  else ringAdvanced r rest s

theorem ringWritten_eq (s : State) (hs : List HW) : writeRing s s.dram.cells 0 hs = Claims.ringWritten s hs :=
  writeRing_eq_foldl s s.dram.cells 0 hs

theorem occupancy_ringAdvanced {s : State} (hring : RingInRange s) (r : LogRecord) (rest : List LogRecord) :
    occupancy (ringAdvanced r rest s) = nextOccupancy r s := by
  obtain ⟨hmin, hmax, _, hrp⟩ := hring
  have hwp : (s.log.wp.toNat + r.halfwords.length) % s.log.size.toNat < s.log.size.toNat := Nat.mod_lt _ (by omega)
  have hvalue : (ringAdvanced r rest s).log.wp.toNat = (s.log.wp.toNat + r.halfwords.length) % s.log.size.toNat := by
    change (BitVec.ofNat 24 _).toNat = _
    rw [BitVec.toNat_ofNat, Nat.mod_eq_of_lt (by omega)]
  have hoccupancy := occupancy_eq_emod (s := ringAdvanced r rest s) ⟨hmin, hmax, by rw [hvalue]; exact hwp, hrp⟩
  rw [hvalue] at hoccupancy
  exact (Int.toNat_natCast _).symm.trans (congrArg Int.toNat hoccupancy)

/-- What follows the advance of the ring. -/
def afterAdvance (r : LogRecord) (s : State) : State :=
  drainAfterPublication r (raiseIf (s.log.level != 0 && decide (s.log.level.toNat ≤ occupancy s)) .logLevel s)

theorem publish_freePort (r : LogRecord) (rest : List LogRecord) (s : State) :
    publish r rest (freePort s) = afterAdvance r (ringAdvanced r rest s) := by
  unfold publish
  simp only [ringWritten_eq, ← length_halfwords]
  rfl

/-- A publication up to the drain that may follow. -/
theorem publish_eq {s : State} (hreset : s.resetLow = false) (hring : RingInRange s) (r : LogRecord) (rest : List LogRecord) :
    publish r rest (freePort s) = drainAfterPublication r (published r rest s) := by
  rw [publish_freePort, afterAdvance, occupancy_ringAdvanced hring, raiseIf_eq _ _ (s := ringAdvanced r rest s) hreset]
  refine congrArg (drainAfterPublication r) (if_congr ?_ rfl rfl)
  rw [Bool.and_eq_true, bne_iff_ne, decide_eq_true_eq]
  rfl

section
variable {r : LogRecord} {rest : List LogRecord} {s : State}

theorem published_run : (published r rest s).run = s.run := by
  unfold published
  split_ifs <;> rfl

theorem published_log : (published r rest s).log = { s.log with
    wp := BitVec.ofNat 24 ((s.log.wp.toNat + r.halfwords.length) % s.log.size.toNat), fifo := rest } := by
  unfold published
  split_ifs <;> rfl

theorem published_app : (published r rest s).app = s.app := by
  unfold published
  split_ifs <;> rfl

theorem published_resetLow : (published r rest s).resetLow = s.resetLow := by
  unfold published
  split_ifs <;> rfl

/-- The END record that an emptied FIFO is followed by. -/
theorem produceEnd_published (hempty : rest = []) (hend : s.log.endProduced = false) :
    produceEndWhenEmpty (published r rest s) =
      { published r rest s with
        log.fifo := [Claims.endRecord s.run.cause s.run.fault s], log.seqno := s.log.seqno + 1, log.endProduced := true } := by
  have hlog := published_log (r := r) (rest := rest) (s := s)
  have hfifo : (published r rest s).log.fifo = [] := by rw [hlog]; exact hempty
  have hproduced : (published r rest s).log.endProduced = false := by rw [hlog]; exact hend
  have hrecord : Claims.endRecord s.run.cause s.run.fault (published r rest s) = Claims.endRecord s.run.cause s.run.fault s := by
    unfold Claims.endRecord
    rw [published_app, hlog]
  have hseq : (published r rest s).log.seqno = s.log.seqno := by rw [hlog]
  rw [produceEndWhenEmpty_of_empty hfifo hproduced, ← hrecord,
    endRecord_eq (congrArg RunControl.cause published_run) (congrArg RunControl.fault published_run), hseq]

end

theorem publicationMovesTheHeadToTheRing : Claims.PublicationMovesTheHeadToTheRing := by
  intro s r rest hreset hring hgrant hfifo size wp occupied t u row last
  have hu : u = published r rest s := rfl
  have hbecomes : Claims.Becomes row (drainAfterPublication r (published r rest s)) := by
    rw [← publish_eq hreset hring]
    change Claims.Becomes (exec .recordPublication s) _
    rw [exec_recordPublication]
    exact event_becomes (by rw [writerGranted, hgrant]; rfl) (by rw [hfifo])
  have hlast : ((published r rest s).run.drainAborted || r.kind == .endRun) = true ↔ last := by
    rw [published_run, Bool.or_eq_true, beq_iff_eq]
  have hgoes : (published r rest s).run.state = s.run.state := by rw [published_run]
  rw [hu]
  refine ⟨fun hstate => ?_, fun hstate hlasts => ?_, fun hstate hmore hkept => ?_, fun hstate hmore hempty hend => ?_⟩
  · exact becomes_of_eq hbecomes (if_pos (by rwa [hgoes]))
  · have hdrains : (published r rest s).run.state = .stopping := hgoes.trans hstate
    refine becomes_of_eq hbecomes ((if_neg (not_not.mpr hdrains)).trans ((if_pos (hlast.mpr hlasts)).trans ?_))
    rw [drainComplete_eq (published_resetLow.trans hreset), published_run]
  · have hdrains : (published r rest s).run.state = .stopping := hgoes.trans hstate
    refine becomes_of_eq hbecomes ((if_neg (not_not.mpr hdrains)).trans ((if_neg (mt hlast.mp hmore)).trans (if_neg ?_)))
    rw [published_log]
    rintro ⟨hnil, hnone⟩
    obtain h | h := hkept
    · exact h hnil
    · exact Bool.noConfusion (hnone.symm.trans h)
  · have hdrains : (published r rest s).run.state = .stopping := hgoes.trans hstate
    exact becomes_of_eq hbecomes ((if_neg (not_not.mpr hdrains)).trans ((if_neg (mt hlast.mp hmore)).trans
      (produceEnd_published hempty hend)))

/-- Settles O59. -/
theorem publicationWritesTheRingAndAdvances : Obligations.PublicationWritesTheRingAndAdvances :=
  ⟨publicationMovesTheHeadToTheRing, recordsArePackedInHalfwords⟩

/-! ## The resets -/

theorem exec_resetNAssert (n : Nat) (s : State) : exec (.resetNAssert n) s = execResetNAssert n s := rfl
theorem exec_resetNRelease (s : State) : exec .resetNRelease s = execResetNRelease s := rfl

theorem atResetN_eq (m : MemCtl) :
    m.atResetN = { MemCtl.por m.msize with
      ready := m.ready, owed := m.owed, refmiss := m.refmiss
      grant := if m.grant = some .refresh then some .refresh else none } := by
  unfold MemCtl.atResetN
  match m.grant with
  | none => rfl
  | some .refresh => rfl
  | some (.walker _) => rfl
  | some .writer => rfl
  | some (.window _) => rfl

theorem resetRowsComplete : Claims.ResetRowsComplete := by
  intro s msize n
  refine ⟨rfl, fun hreset => ?_, fun hreset => ?_⟩
  · rw [exec_resetNAssert]
    refine event_becomes (by rw [hreset]; rfl) ?_
    rw [resetN, atResetN_eq]
    rfl
  · rw [exec_resetNRelease]
    exact event_becomes hreset rfl

theorem cutGrantsLeaveWhatTheyWrote : Claims.CutGrantsLeaveWhatTheyWrote := by
  intro s n
  refine ⟨fun r rest hgrant hfifo => ?_, fun ws live hgrant => ?_, fun d m v o hgrant => ?_, fun d xs o hgrant => ?_,
    fun r old t hgrant hread => ?_, fun hother => ?_⟩
  · unfold partialTransfer
    rw [hgrant, hfifo]
    change { s with dram.cells := writeRing s s.dram.cells 0 (r.halfwords.take (min n (r.length - 1))) } = _
    rw [ringWritten_eq, length_halfwords]
  · unfold partialTransfer
    rw [hgrant]
    rfl
  · unfold partialTransfer
    rw [hgrant]
  · unfold partialTransfer
    rw [hgrant]
  · unfold partialTransfer
    rw [hgrant]
    change (if 2 ≤ n then (patchMemory r s).2 else s) = _
    unfold patchMemory
    rw [hread]
    by_cases hn : 2 ≤ n
    · rw [if_pos hn, if_neg (by omega)]
      rfl
    · rw [if_neg hn, if_pos (by omega)]
  · unfold partialTransfer
    obtain hgrant | hgrant | ⟨l, hgrant⟩ | ⟨a, m, l, hgrant⟩ | ⟨a, d, m, o, hgrant⟩ | ⟨hgrant, hfifo⟩ := hother
    · rw [hgrant]
    · rw [hgrant]
    · rw [hgrant]
    · rw [hgrant]
    · rw [hgrant]
    · rw [hgrant, hfifo]

/-- Settles O60. -/
theorem resetsReturnTheBlocksToTheirValues : Obligations.ResetsReturnTheBlocksToTheirValues :=
  ⟨resetRowsComplete, cutGrantsLeaveWhatTheyWrote⟩

end Sys2Proof.Machine
end

section
/-! What a read of a register returns (R8, R175, R177 to R179, R190; Tables 12-1 and 12-2). -/

namespace Sys2Proof.Machine

/-! ## Which read an offset is -/

/-- An offset that is a register of its own: no half of a pair, and not WDATA. -/
def ownRegister (o : BitVec 7) : Bool :=
  o != 0x12 && allPairs.all fun p => o != pairOffset p && o != pairOffset p + 1

theorem readPair_eq_none {s : State} {o : BitVec 7} (hown : ownRegister o = true) : readPair s o = none := by
  obtain ⟨_, hpairs⟩ := Bool.and_eq_true_iff.mp hown
  refine List.findSome?_eq_none_iff.mpr fun p hp => ?_
  obtain ⟨hlow, hhigh⟩ := Bool.and_eq_true_iff.mp (List.all_eq_true.mp hpairs p hp)
  rw [if_neg (bne_iff_ne.mp hlow), if_neg (bne_iff_ne.mp hhigh)]

/-- A register of its own is read in one of the two halves of the offsets. -/
theorem readRegister_own {s : State} {pads : Vector HW 4} {trgPads : BitVec 4} {o : BitVec 7} (hreset : s.resetLow = false)
    (hown : ownRegister o = true) :
    readRegister s pads trgPads o =
      some (if o.toNat < 0x40 then readLow s o.toNat else readHigh s pads trgPads o.toNat) := by
  have hwdata : o ≠ 0x12 := bne_iff_ne.mp (Bool.and_eq_true_iff.mp hown).1
  have hanswered : ¬ (s.resetLow = true ∨ o = 0x12) :=
    not_or.mpr ⟨by rw [hreset]; decide, hwdata⟩
  rw [readRegister, if_neg hanswered, readPair_eq_none hown]
  exact (apply_ite some _ _ _).symm

theorem readRegister_low {s : State} (pads : Vector HW 4) (trgPads : BitVec 4) {o : BitVec 7} (hreset : s.resetLow = false)
    (hown : (ownRegister o && decide (o.toNat < 0x40)) = true) : readRegister s pads trgPads o = some (readLow s o.toNat) := by
  obtain ⟨hown, hlow⟩ := Bool.and_eq_true_iff.mp hown
  rw [readRegister_own hreset hown, if_pos (of_decide_eq_true hlow)]

theorem readRegister_high {s : State} (pads : Vector HW 4) (trgPads : BitVec 4) {o : BitVec 7} (hreset : s.resetLow = false)
    (hown : (ownRegister o && decide (0x40 ≤ o.toNat)) = true) :
    readRegister s pads trgPads o = some (readHigh s pads trgPads o.toNat) := by
  obtain ⟨hown, hhigh⟩ := Bool.and_eq_true_iff.mp hown
  rw [readRegister_own hreset hown, if_neg (Nat.not_lt.mpr (of_decide_eq_true hhigh))]

theorem readPair_low (s : State) (p : Pair) : readPair s (pairOffset p) = some (lowHalf (pairValue s p)) := by
  cases p <;> rfl

theorem readPair_high (s : State) (p : Pair) :
    readPair s (pairOffset p + 1) = some (highHalf s.win.captures[pairIndex p]) := by
  cases p <;> rfl

theorem pairOffset_ne_wdata (p : Pair) : pairOffset p ≠ 0x12 ∧ pairOffset p + 1 ≠ 0x12 := by
  cases p <;> decide

theorem readRegister_pair {s : State} {pads : Vector HW 4} {trgPads : BitVec 4} {o : BitVec 7} {v : HW}
    (hreset : s.resetLow = false) (hwdata : o ≠ 0x12) (hpair : readPair s o = some v) :
    readRegister s pads trgPads o = some v := by
  have hanswered : ¬ (s.resetLow = true ∨ o = 0x12) :=
    not_or.mpr ⟨by rw [hreset]; decide, hwdata⟩
  rw [readRegister, if_neg hanswered, hpair]

/-! ## Pairs -/

theorem exec_pairLowRead (p : Pair) (s : State) : exec (.pairLowRead p) s = execPairLowRead p s := rfl
theorem exec_pairLowWrite (p : Pair) (v : HW) (s : State) : exec (.pairLowWrite p v) s = execPairLowWrite p v s := rfl

theorem pairAccessesCaptureAndHold : Claims.PairAccessesCaptureAndHold := by
  intro s p v hfree
  obtain ⟨hreset, _⟩ := busFree_iff.mp hfree
  refine ⟨?_, fun pads trgPads => ⟨?_, ?_⟩, fun hwritten => ?_, fun hreadOnly => ?_⟩
  · rw [exec_pairLowRead, Claims.Becomes, execPairLowRead, hostAccess_taken _ hfree, lowHalf_eq]
  · rw [← lowHalf_eq]
    exact readRegister_pair hreset (pairOffset_ne_wdata p).1 (readPair_low s p)
  · exact readRegister_pair hreset (pairOffset_ne_wdata p).2 (readPair_high s p)
  · rw [exec_pairLowWrite]
    exact registerAccess_becomes_of_passes hfree (by rw [hwritten]; rfl)
  · rw [exec_pairLowWrite]
    exact registerAccess_becomes_of_refused hfree (by rw [hreadOnly]; rfl)

/-! ## WADDR and WINCTL -/

theorem exec_waddrWrite (high : HW) (s : State) : exec (.waddrWrite high) s = execWaddrWrite high s := rfl
theorem exec_winctlWrite (v : HW) (s : State) : exec (.winctlWrite v) s = execWinctlWrite v s := rfl

theorem getLsbD_zero_of_lt_two {v : HW} (hv : v.toNat < 2) : v.getLsbD 0 = (v == 1) := by
  have hvalue : v = 0#16 ∨ v = 1#16 := by
    obtain h | h : v.toNat = 0 ∨ v.toNat = 1 := by omega
    · exact .inl (BitVec.eq_of_toNat_eq h)
    · exact .inr (BitVec.eq_of_toNat_eq h)
  obtain rfl | rfl := hvalue
  · decide
  · decide

theorem waddrAndWinctlWritesDiscardTheReadAhead : Claims.WaddrAndWinctlWritesDiscardTheReadAhead := by
  intro s v hfree addr
  rw [exec_waddrWrite, exec_winctlWrite]
  refine ⟨checkedWrite_ite hfree (by rfl) ?_ fun _ => ?_, checkedWrite_ite hfree (by rfl) ?_ fun hv => ?_⟩
  · simp only [toNat_joined, decide_eq_true_eq, not_lt, addr]
  · rw [setWidth_joined, discardAhead_eq]
    rfl
  · rw [decide_eq_true_eq, Nat.not_lt]
  · rw [getLsbD_zero_of_lt_two hv, discardAhead_eq]
    rfl

/-! ## Codes as the registers pack them (Tables 12-2, 12-4, 12-5, 12-7) -/

theorem seqState_code (x : SeqState) : Claims.code [SeqState.idle, .armed, .running, .waiting, .paused, .stopping, .ended,
    .faulted] x 3 = BitVec.ofNat 3 x.code ∧ x.code < 8 := by
  cases x <;> decide

theorem cause_code (x : Cause) : Claims.code [Cause.none, .trigger, .levels, .notReady, .host, .step, .break0, .break1, .fail,
    .complete, .failLimit, .abort, .fault] x 4 = BitVec.ofNat 4 x.code ∧ x.code < 16 := by
  cases x <;> decide

theorem walkerState_code (x : WalkerState) : Claims.code [WalkerState.stopped, .walking, .stallFull, .stallReady, .stallWait,
    .done] x 3 = BitVec.ofNat 3 x.code ∧ x.code < 8 := by
  cases x <;> decide

theorem writerState_code (x : WriterState) : Claims.code [WriterState.empty, .noRoom, .requesting, .writing] x 2 =
    BitVec.ofNat 2 x.code ∧ x.code < 4 := by
  cases x <;> decide

theorem status_code (x : Status) (w : Nat) : Claims.code [Status.ok, .wrongState, .badArg, .segInUse, .configLocked, .wbufPending,
    .memopBusy, .outOfZone, .zoneLocked, .memNotReady, .illegalCmd, .badLog, .noReg] x w = BitVec.ofNat w x.code ∧ x.code < 16 := by
  cases x <;> exact ⟨rfl, by decide⟩

theorem mopLast_code (x : MopLast) : Claims.code [MopLast.none, .done, .cancelled, .abandoned] x 2 = BitVec.ofNat 2 x.code ∧
    x.code < 4 := by
  cases x <;> decide

theorem width_code (x : Width) : Claims.code [Width.w1, .w4, .w8, .w16] x 2 = BitVec.ofNat 2 x.code ∧ x.code < 4 := by
  cases x <;> decide

theorem park_code (x : Park) : Claims.code [Park.hiz, .low, .high, .hold] x 2 = BitVec.ofNat 2 x.code ∧ x.code < 4 := by
  cases x <;> decide

theorem compareKind_code (x : CompareKind) : Claims.code [CompareKind.eq, .ule, .uge, .sle, .sge] x 3 = BitVec.ofNat 3 x.code ∧
    x.code < 8 := by
  cases x <;> decide

theorem zoneKind_code (x : ZoneKind) : Claims.code [ZoneKind.vector, .log, .data] x 2 = BitVec.ofNat 2 x.code ∧ x.code < 4 := by
  cases x <;> decide

theorem faultCode_code (x : FaultCode) : Claims.code [FaultCode.none, .underrun, .badSegment, .badVector, .mixedLane,
    .fetchZone, .loopOverflow, .loopUnderflow, .loopUnclosed, .waitTimeout, .starveTimeout, .portStandby] x 16 =
    BitVec.ofNat 16 x.code := by
  cases x <;> rfl

theorem trgMode_code (x : TrgMode) : Claims.code [TrgMode.input, .outMark, .outRun, .outFail] x 2 = BitVec.ofNat 2 x.code ∧
    x.code < 4 := by
  cases x <;> decide

theorem trgEdge_code (x : TrgEdge) : Claims.code [TrgEdge.rise, .fall, .both] x 2 = BitVec.ofNat 2 x.code ∧ x.code < 4 := by
  cases x <;> decide

theorem grantCode_lt (g : Option Grant) : grantCode g < 8 := by
  match g with
  | none => exact (by decide : 0 < 8)
  | some .refresh => exact (by decide : 1 < 8)
  | some (.walker _) => exact (by decide : 2 < 8)
  | some .writer => exact (by decide : 3 < 8)
  | some (.window _) => exact (by decide : 4 < 8)

theorem toNat_ofBool_eq_bit (b : Bool) : (BitVec.ofBool b).toNat = bit b := by
  cases b <;> rfl

theorem bit_le_one (b : Bool) : bit b ≤ 1 := by
  cases b <;> decide

end Sys2Proof.Machine
end

section
/-! The packed registers: the fields of Table 12-2, highest bits first. -/

namespace Sys2Proof.Machine

/-! ## The status registers -/

theorem winerrValue_eq (s : State) : winerrValue s = 0#1 ++ s.win.winerr.offset ++ 0#4 ++ BitVec.ofNat 4 s.win.winerr.code.code := by
  have hcode := (status_code s.win.winerr.code 4).2
  have hoffset := s.win.winerr.offset.isLt
  refine BitVec.eq_of_toNat_eq ?_
  simp only [winerrValue, toNat_append_eq_add, BitVec.toNat_ofNat]
  omega

theorem memOp_code_lt (op : MemOp) : op.code < 4 := by
  cases op
  · exact (by decide : 0 < 4)
  · exact (by decide : 1 < 4)
  · exact (by decide : 2 < 4)

theorem mopstatValue_eq {s : State} (hposted : s.win.posted.length ≤ 8) :
    mopstatValue s = 0#8 ++ BitVec.ofNat 4 s.win.posted.length ++ BitVec.ofNat 2 s.win.mopLast.code ++
      BitVec.ofNat 2 s.win.memop.code := by
  have hlast := (mopLast_code s.win.mopLast).2
  have hop := memOp_code_lt s.win.memop
  refine BitVec.eq_of_toNat_eq ?_
  simp only [mopstatValue, toNat_append_eq_add, BitVec.toNat_ofNat]
  omega

theorem seqstateValue_eq (s : State) :
    seqstateValue s = 0#3 ++ BitVec.ofBool s.run.drainAborted ++ BitVec.ofNat 3 s.walker.st.code ++
      BitVec.ofBool (s.run.state == .paused && s.run.suspended.isSome) ++
      BitVec.ofBool (s.run.state == .running && s.app.stream == .priming) ++
      BitVec.ofNat 4 s.run.cause.code ++ BitVec.ofNat 3 s.run.state.code := by
  have hstate := (seqState_code s.run.state).2
  have hcause := (cause_code s.run.cause).2
  have hwalker := (walkerState_code s.walker.st).2
  have hpriming := bit_le_one (s.run.state == .running && s.app.stream == .priming)
  have hsuspended := bit_le_one (s.run.state == .paused && s.run.suspended.isSome)
  have hdrain := bit_le_one s.run.drainAborted
  refine BitVec.eq_of_toNat_eq ?_
  simp only [seqstateValue, toNat_append_eq_add, BitVec.toNat_ofNat, toNat_ofBool_eq_bit]
  omega

/-- WALKSTAT.PENDING. -/
def pendingValue (s : State) : Nat :=
  match s.walker.st, s.walker.pend with
  | .stallReady, some i => i.val
  | _, _ => 127

theorem pendingValue_lt (s : State) : pendingValue s < 128 := by
  unfold pendingValue
  split
  next i _ _ => exact i.isLt.trans (by decide)
  next => decide

theorem walkstatValue_eq {s : State} (hqueue : s.queue.length ≤ 8) (hstack : s.walker.stack.length ≤ 4) :
    walkstatValue s = 0#1 ++ BitVec.ofNat 7 (pendingValue s) ++ 0#1 ++ BitVec.ofNat 3 s.walker.stack.length ++
      BitVec.ofNat 4 s.queue.length := by
  have hpending := pendingValue_lt s
  have hvalue : walkstatValue s =
      BitVec.ofNat 16 (s.queue.length + 16 * s.walker.stack.length + 256 * pendingValue s) := rfl
  rw [hvalue]
  refine BitVec.eq_of_toNat_eq ?_
  simp only [toNat_append_eq_add, BitVec.toNat_ofNat]
  omega

theorem logstatValue_eq {s : State} (hfifo : s.log.fifo.length ≤ 16) :
    logstatValue s = 0#8 ++ BitVec.ofBool (s.run.state == .stopping) ++ BitVec.ofNat 2 (writerState s).code ++
      BitVec.ofNat 5 s.log.fifo.length := by
  have hwriter := (writerState_code (writerState s)).2
  have hstopping := bit_le_one (s.run.state == .stopping)
  refine BitVec.eq_of_toNat_eq ?_
  simp only [logstatValue, toNat_append_eq_add, BitVec.toNat_ofNat, toNat_ofBool_eq_bit]
  omega

theorem memstatValue_eq {s : State} (howed : s.mem.owed ≤ 8) (hpassover : s.mem.passover ≤ 16) :
    memstatValue s = BitVec.ofNat 3 (grantCode s.mem.grant) ++ BitVec.ofNat 5 s.mem.passover ++
      BitVec.ofBool s.mem.refmiss ++ BitVec.ofNat 4 s.mem.owed ++ s.mem.msize ++ BitVec.ofBool s.mem.ready := by
  have hgrant := grantCode_lt s.mem.grant
  have hmsize := s.mem.msize.isLt
  have hmiss := bit_le_one s.mem.refmiss
  have hready := bit_le_one s.mem.ready
  refine BitVec.eq_of_toNat_eq ?_
  simp only [memstatValue, toNat_append_eq_add, BitVec.toNat_ofNat, toNat_ofBool_eq_bit]
  omega

theorem beq_eq_decide_eq {α : Type} [DecidableEq α] (x y : α) : (x == y) = decide (x = y) := rfl

theorem isSome_eq_decide {α : Type} [DecidableEq (Option α)] (x : Option α) : x.isSome = decide (x ≠ none) := by
  cases x <;> simp

theorem statusRegistersReadTheirFields : Claims.StatusRegistersReadTheirFields := by
  intro s pads trgPads hreset hcounts hbounded rd bit state cause walker wstate error pending grant last mstate
  obtain ⟨howed, hpassover, hfifo, hstack, hposted, _⟩ := hcounts
  have hlow : ∀ {o : BitVec 7}, (ownRegister o && decide (o.toNat < 0x40)) = true → rd o = some (readLow s o.toNat) :=
    readRegister_low pads trgPads hreset
  have hhigh : ∀ {o : BitVec 7}, (ownRegister o && decide (0x40 ≤ o.toNat)) = true →
      rd o = some (readHigh s pads trgPads o.toNat) := readRegister_high pads trgPads hreset
  refine ⟨(hlow (by decide)).trans (congrArg some ?_), (hlow (by decide)).trans (congrArg some ?_),
    (hlow (by decide)).trans (congrArg some ?_), (hlow (by decide)).trans (congrArg some ?_),
    (hlow (by decide)).trans (congrArg some ?_), (hhigh (by decide)).trans (congrArg some ?_),
    (hhigh (by decide)).trans (congrArg some ?_)⟩
  · exact (status_code s.win.cmdstat 16).1.symm
  · change winerrValue s = _
    rw [winerrValue_eq, ← (status_code s.win.winerr.code 4).1]
  · have hmstate : BitVec.ofNat 2 s.win.memop.code = mstate := by
      simp only [mstate]
      cases s.win.memop <;> rfl
    change mopstatValue s = _
    rw [mopstatValue_eq hposted, ← (mopLast_code _).1, hmstate]
  · change seqstateValue s = _
    rw [seqstateValue_eq, ← (walkerState_code _).1, ← (cause_code _).1, ← (seqState_code _).1]
    simp only [Bool.decide_and, beq_eq_decide_eq, isSome_eq_decide, bit, state, cause, walker]
  · have hpending : BitVec.ofNat 7 (pendingValue s) = pending := by
      simp only [pending, pendingValue]
      cases s.walker.st <;> cases s.walker.pend <;> rfl
    change walkstatValue s = _
    rw [walkstatValue_eq hbounded.1 hstack, hpending]
  · change logstatValue s = _
    rw [logstatValue_eq hfifo, ← (writerState_code _).1]
    rfl
  · have hgrant : BitVec.ofNat 3 (grantCode s.mem.grant) = grant := by
      simp only [grant]
      rcases s.mem.grant with _ | g
      · rfl
      · cases g <;> rfl
    change memstatValue s = _
    rw [memstatValue_eq howed hpassover, hgrant]

end Sys2Proof.Machine
end

section
/-! The registers of the ports, the trigger lines, the segment table, the zones, the run's records and the settings, and what
they read after power-on reset (Table 12-1). -/

namespace Sys2Proof.Machine

/-! ## Bits packed lowest first -/

/-- The number whose bit `k` is `f k`, of `n` bits. -/
def lowBits (f : Nat → Bool) (n : Nat) : Nat := ((List.range n).map fun k => if f k then 2 ^ k else 0).sum

theorem lowBits_succ (f : Nat → Bool) (n : Nat) : lowBits f (n + 1) = lowBits f n + if f n then 2 ^ n else 0 := by
  simp [lowBits, List.range_succ]

theorem lowBits_lt (f : Nat → Bool) (n : Nat) : lowBits f n < 2 ^ n := by
  induction n with
  | zero => exact Nat.one_pos
  | succ n ih =>
    rw [lowBits_succ, pow_succ]
    split
    · omega
    · omega

theorem testBit_lowBits (f : Nat → Bool) (n k : Nat) : (lowBits f n).testBit k = (decide (k < n) && f k) := by
  induction n with
  | zero => simp [lowBits]
  | succ n ih =>
    have hbit : lowBits f (n + 1) = 2 ^ n * (f n).toNat + lowBits f n := by
      rw [lowBits_succ, Nat.add_comm]
      cases f n <;> simp
    rw [hbit, Nat.testBit_two_pow_mul_add _ (lowBits_lt f n), ih]
    by_cases hk : k < n
    · simp [hk, Nat.lt_succ_of_lt hk]
    · rw [if_neg hk]
      by_cases heq : k = n
      · subst heq
        cases f k <;> simp
      · have hbig : k - n ≠ 0 := by omega
        have hnot : ¬ k < n + 1 := by omega
        rw [decide_eq_false hnot, Bool.false_and]
        obtain ⟨m, hm⟩ := Nat.exists_eq_succ_of_ne_zero hbig
        rw [hm]
        cases f n <;> simp [Nat.testBit_succ]

theorem getLsbD_lowBits (f : Nat → Bool) {k : Nat} (hk : k < 16) : (BitVec.ofNat 16 (lowBits f 16)).getLsbD k = f k := by
  rw [BitVec.getLsbD_ofNat, testBit_lowBits]
  simp [hk]

/-! ## Values by block -/

theorem portcfgValue_eq (c : PortCfg) :
    portcfgValue c = 0#8 ++ Claims.code [Park.hiz, .low, .high, .hold] c.park 2 ++
      Claims.code [CompareKind.eq, .ule, .uge, .sle, .sge] c.kind 3 ++
      Claims.code [Width.w1, .w4, .w8, .w16] c.width 2 ++ BitVec.ofBool c.enabled := by
  have henabled := bit_le_one c.enabled
  obtain ⟨hpark, hparklt⟩ := park_code c.park
  obtain ⟨hkind, hkindlt⟩ := compareKind_code c.kind
  obtain ⟨hwidth, hwidthlt⟩ := width_code c.width
  rw [hpark, hkind, hwidth]
  refine BitVec.eq_of_toNat_eq ?_
  simp only [portcfgValue, toNat_append_eq_add, BitVec.toNat_ofNat, toNat_ofBool_eq_bit]
  omega

theorem zattrValue_eq (z : Zone) :
    zattrValue z = 0#12 ++ BitVec.ofBool z.enabled ++ BitVec.ofBool z.wrun ++
      Claims.code [ZoneKind.vector, .log, .data] z.kind 2 := by
  have henabled := bit_le_one z.enabled
  have hwrun := bit_le_one z.wrun
  obtain ⟨hkind, hkindlt⟩ := zoneKind_code z.kind
  rw [hkind]
  refine BitVec.eq_of_toNat_eq ?_
  simp only [zattrValue, toNat_append_eq_add, BitVec.toNat_ofNat, toNat_ofBool_eq_bit]
  omega

theorem bpctlValue_eq (b : Breakpoint) :
    bpctlValue b = 0#12 ++ BitVec.ofBool b.iteren ++ BitVec.ofBool b.offen ++ BitVec.ofBool b.segen ++
      BitVec.ofBool b.enable := by
  have henable := bit_le_one b.enable
  have hsegen := bit_le_one b.segen
  have hoffen := bit_le_one b.offen
  have hiteren := bit_le_one b.iteren
  refine BitVec.eq_of_toNat_eq ?_
  simp only [bpctlValue, toNat_append_eq_add, BitVec.toNat_ofNat, toNat_ofBool_eq_bit]
  omega

/-- The field of four bits at line `j` of a register of four fields. -/
theorem lineField {c : Fin 4 → Nat} (hc : ∀ j, c j < 16) (j : Fin 4) :
    (BitVec.ofNat 16 ((all4.map fun j => c j * 2 ^ (4 * j.val)).sum)).toNat / 2 ^ (4 * j.val) % 16 = c j := by
  have h0 := hc 0
  have h1 := hc 1
  have h2 := hc 2
  have h3 := hc 3
  simp only [all4, List.map_cons, List.map_nil, List.sum_cons, List.sum_nil, BitVec.toNat_ofNat]
  fin_cases j
  · change (c 0 * 1 + (c 1 * 16 + (c 2 * 256 + (c 3 * 4096 + 0)))) % 65536 / 1 % 16 = c 0
    omega
  · change (c 0 * 1 + (c 1 * 16 + (c 2 * 256 + (c 3 * 4096 + 0)))) % 65536 / 16 % 16 = c 1
    omega
  · change (c 0 * 1 + (c 1 * 16 + (c 2 * 256 + (c 3 * 4096 + 0)))) % 65536 / 256 % 16 = c 2
    omega
  · change (c 0 * 1 + (c 1 * 16 + (c 2 * 256 + (c 3 * 4096 + 0)))) % 65536 / 4096 % 16 = c 3
    omega

theorem trgcfgValue_fields (s : State) (j : Line) :
    (trgcfgValue s).extractLsb' (4 * j.val) 2 =
      Claims.code [TrgMode.input, .outMark, .outRun, .outFail] s.trig.lines[j].mode 2 ∧
    (trgcfgValue s).extractLsb' (4 * j.val + 2) 2 = Claims.code [TrgEdge.rise, .fall, .both] s.trig.lines[j].edge 2 := by
  have hfield := lineField (c := fun j => s.trig.lines[j].mode.code + 4 * s.trig.lines[j].edge.code) (fun j => by
    have hmode := (trgMode_code s.trig.lines[j].mode).2
    have hedge := (trgEdge_code s.trig.lines[j].edge).2
    omega) j
  obtain ⟨hmode, hmodelt⟩ := trgMode_code s.trig.lines[j].mode
  obtain ⟨hedge, hedgelt⟩ := trgEdge_code s.trig.lines[j].edge
  change (trgcfgValue s).toNat / 2 ^ (4 * j.val) % 16 = _ at hfield
  rw [hmode, hedge]
  constructor
  · refine BitVec.eq_of_toNat_eq ?_
    rw [BitVec.extractLsb'_toNat, Nat.shiftRight_eq_div_pow, BitVec.toNat_ofNat]
    omega
  · refine BitVec.eq_of_toNat_eq ?_
    rw [BitVec.extractLsb'_toNat, Nat.shiftRight_eq_div_pow, BitVec.toNat_ofNat, pow_add, ← Nat.div_div_eq_div_mul]
    omega

/-- The level of a trigger line, driven or at its pad. -/
def lineLevel (s : State) (trgPads : BitVec 4) (j : Line) : Bool :=
  if s.trig.lines[j].mode = .input then trgPads.getLsbD j.val else s.trig.active.getLsbD j.val

theorem lineLevels (f : Fin 4 → Bool) :
    (BitVec.ofNat 16 ((all4.map fun j => bit (f j) * 2 ^ j.val).sum)).toNat < 16 ∧
      ∀ j : Fin 4, (BitVec.ofNat 16 ((all4.map fun j => bit (f j) * 2 ^ j.val).sum)).getLsbD j.val = f j := by
  revert f
  decide

theorem trglvlValue_levels (s : State) (trgPads : BitVec 4) :
    (trglvlValue s trgPads).toNat < 16 ∧
      ∀ j : Line, (trglvlValue s trgPads).getLsbD j.val = lineLevel s trgPads j := lineLevels (lineLevel s trgPads)

theorem segrdyValue_bit (s : State) (j : Fin 4) (k : Fin 16) :
    (segrdyValue s j.val).getLsbD k.val = (s.seg.entries[16 * j.val + k.val])[6].getLsbD 0 := by
  have hvalue : segrdyValue s j.val =
      BitVec.ofNat 16 (lowBits (fun k => (s.seg.entries.toList[16 * j.val + k]?).any segReady) 16) := by
    refine congrArg (fun l => BitVec.ofNat 16 (List.sum l)) (List.map_congr_left fun k _ => ?_)
    change _ = if (s.seg.entries.toList[16 * j.val + k]?).any segReady = true then 2 ^ k else 0
    cases s.seg.entries.toList[16 * j.val + k]? <;> rfl
  have hentry : s.seg.entries.toList[16 * j.val + k.val]? = some s.seg.entries[16 * j.val + k.val] := by
    rw [List.getElem?_eq_getElem (by simp; omega)]
    simp
  rw [hvalue, getLsbD_lowBits _ k.isLt, hentry]
  rfl

/-! ## Reads of register arrays -/

theorem toList_getD {α : Type} {n : Nat} (v : Vector α n) (i : Fin n) (d : α) : v.toList.getD i.val d = v[i] := by
  simp [List.getD_eq_getElem?_getD]

section
variable (s : State) (pads : Vector HW 4) (trgPads : BitVec 4)

theorem readLow_carg (i : Fin 6) : readLow s (5 + i.val) = s.win.carg[i] := by
  rw [← toList_getD s.win.carg i 0]
  fin_cases i <;> rfl

theorem readLow_breakpoint (n : Fin 2) (k : Fin 4) : readLow s (0x38 + 4 * n.val + k.val) = bpValue s.run.bp[n] k.val := by
  fin_cases n <;> fin_cases k <;> rfl

theorem readHigh_stage (i : Fin 12) : readHigh s pads trgPads (0x40 + i.val) = s.seg.stage[i] := by
  rw [← toList_getD s.seg.stage i 0]
  fin_cases i <;> rfl

theorem readHigh_segrdy (j : Fin 4) : readHigh s pads trgPads (0x4C + j.val) = segrdyValue s j.val := by
  fin_cases j <;> rfl

theorem readHigh_portcfg (p : Port) : readHigh s pads trgPads (0x54 + p.val) = portcfgValue s.ports.cfg[p] := by
  have hcfg := toList_getD (s.ports.cfg.map portcfgValue) p 0
  rw [Vector.toList_map] at hcfg
  have hread : readHigh s pads trgPads (0x54 + p.val) = (s.ports.cfg.toList.map portcfgValue).getD p.val 0 := by
    fin_cases p <;> rfl
  rw [hread, hcfg]
  exact Vector.getElem_map _ _

theorem readHigh_pinval (p : Port) : readHigh s pads trgPads (0x58 + p.val) = pads[p] := by
  rw [← toList_getD pads p 0]
  fin_cases p <;> rfl

end

end Sys2Proof.Machine
end

section
/-! The registers of the blocks and those that a write sets, read back (R190; Table 12-1). -/

namespace Sys2Proof.Machine

theorem ofNat_bit (b : Bool) : BitVec.ofNat 16 (bit b) = if b then 1 else 0 := by
  cases b <;> rfl

theorem blockRegistersReadTheirState : Claims.BlockRegistersReadTheirState := by
  intro s pads trgPads rd
  refine ⟨fun hlow o => if_pos (.inl hlow), fun hreset => ?_⟩
  have hlow : ∀ {o : BitVec 7}, (ownRegister o && decide (o.toNat < 0x40)) = true → rd o = some (readLow s o.toNat) :=
    readRegister_low pads trgPads hreset
  have hhigh : ∀ {o : BitVec 7}, (ownRegister o && decide (0x40 ≤ o.toNat)) = true →
      rd o = some (readHigh s pads trgPads o.toNat) := readRegister_high pads trgPads hreset
  intro port z fault
  refine ⟨hlow (by decide), hlow (by decide), fun p => ⟨?_, ?_⟩, ⟨_, hhigh (by decide), trgcfgValue_fields s⟩,
    hhigh (by decide), ⟨_, hhigh (by decide), trglvlValue_levels s trgPads⟩, fun j => ⟨segrdyValue s j.val, ?_, segrdyValue_bit s j⟩,
    hhigh (by decide), hhigh (by decide), (hhigh (by decide)).trans (congrArg some (zattrValue_eq z)), hhigh (by decide),
    (hlow (by decide)).trans (congrArg some (faultCode_code _).symm), hlow (by decide), hlow (by decide), hlow (by decide),
    hlow (by decide), hlow (by decide), hlow (by decide), hlow (by decide), hlow (by decide), hlow (by decide),
    hlow (by decide), hlow (by decide), ?_⟩
  · have hoffset : (BitVec.ofNat 7 (0x54 + p.val)).toNat = 0x54 + p.val := by
      revert p
      decide
    rw [hhigh (by revert p; decide), hoffset, readHigh_portcfg, portcfgValue_eq]
  · have hoffset : (BitVec.ofNat 7 (0x58 + p.val)).toNat = 0x58 + p.val := by
      revert p
      decide
    rw [hhigh (by revert p; decide), hoffset, readHigh_pinval]
  · have hoffset : (BitVec.ofNat 7 (0x4C + j.val)).toNat = 0x4C + j.val := by
      revert j
      decide
    rw [hhigh (by revert j; decide), hoffset, readHigh_segrdy]
  · have hsplit : ∀ o ∈ ([0x0F, 0x17, 0x1F, 0x2D, 0x2E, 0x2F, 0x35, 0x36, 0x37] : List (BitVec 7)), rd o = some 0 := by
      intro o ho
      fin_cases ho <;> exact hlow (by decide)
    have hrest : ∀ o ∈ ([0x51, 0x52, 0x53, 0x63, 0x73, 0x7C, 0x7D, 0x7E, 0x7F] : List (BitVec 7)), rd o = some 0 := by
      intro o ho
      fin_cases ho <;> exact hhigh (by decide)
    exact List.forall_mem_append.mpr ⟨hsplit, hrest⟩

theorem writtenRegistersReadBack : Claims.WrittenRegistersReadBack := by
  intro s pads trgPads hreset rd t
  have hlow : ∀ {o : BitVec 7}, (ownRegister o && decide (o.toNat < 0x40)) = true → rd o = some (readLow s o.toNat) :=
    readRegister_low pads trgPads hreset
  have hhigh : ∀ {o : BitVec 7}, (ownRegister o && decide (0x40 ≤ o.toNat)) = true →
      rd o = some (readHigh s pads trgPads o.toNat) := readRegister_high pads trgPads hreset
  refine ⟨hlow (by decide), hlow (by decide), fun i => ?_, hlow (by decide), hlow (by decide),
    (hlow (by decide)).trans (congrArg some (ofNat_bit _)), hlow (by decide), hlow (by decide), hlow (by decide),
    (hlow (by decide)).trans (congrArg some (ofNat_bit _)), hlow (by decide), fun n => ?_, fun i => ?_, hhigh (by decide),
    hhigh (by decide), hhigh (by decide), hhigh (by decide)⟩
  · have hoffset : (BitVec.ofNat 7 (0x05 + i.val)).toNat = 5 + i.val := by
      revert i
      decide
    rw [hlow (by revert i; decide), hoffset, readLow_carg]
  · have hunit : ∀ k : Fin 4, rd (BitVec.ofNat 7 (0x38 + 4 * n.val + k.val)) = some (bpValue s.run.bp[n] k.val) := fun k => by
      have hoffset : (BitVec.ofNat 7 (0x38 + 4 * n.val + k.val)).toNat = 0x38 + 4 * n.val + k.val := by
        revert n k
        decide
      rw [hlow (by revert n k; decide), hoffset, readLow_breakpoint]
    exact ⟨(hunit 0).trans (congrArg some (bpctlValue_eq _)), hunit 1, hunit 2, hunit 3⟩
  · have hoffset : (BitVec.ofNat 7 (0x40 + i.val)).toNat = 0x40 + i.val := by
      revert i
      decide
    rw [hhigh (by revert i; decide), hoffset, readHigh_stage]

/-- Settles O39. -/
theorem windowRegistersFollowTheirRules : Obligations.WindowRegistersFollowTheirRules :=
  ⟨pairAccessesCaptureAndHold, waddrAndWinctlWritesDiscardTheReadAhead, statusRegistersReadTheirFields,
    blockRegistersReadTheirState, writtenRegistersReadBack⟩

end Sys2Proof.Machine
end

section
/-! What the registers read after power-on reset (R8; Table 12-1). -/

namespace Sys2Proof.Machine

section
variable (msize : BitVec 2) (epoch : Nat)

theorem walkstatValue_porWith : walkstatValue (State.porWith msize epoch) = 0x7F00 := by
  have hpending : pendingValue (State.porWith msize epoch) = 127 := rfl
  have hqueue : (State.porWith msize epoch).queue.length = 0 := rfl
  have hstack : (State.porWith msize epoch).walker.stack.length = 0 := rfl
  rw [walkstatValue_eq (hqueue.trans_le (Nat.zero_le 8)) (hstack.trans_le (Nat.zero_le 4)), hpending, hqueue, hstack]
  rfl

theorem trgcfgValue_porWith : trgcfgValue (State.porWith msize epoch) = 0 := by
  have hline : ∀ j : Line, (State.porWith msize epoch).trig.lines[j] = ⟨.input, .rise⟩ := fun j =>
    Vector.getElem_replicate j.isLt
  simp [trgcfgValue, all4, hline, TrgMode.code, TrgEdge.code]

theorem memstatValue_porWith : memstatValue (State.porWith msize epoch) = BitVec.ofNat 16 (2 * msize.toNat) := by
  simp [memstatValue, State.porWith, MemCtl.por, bit, grantCode]

/-- No segment is READY at power-on reset. -/
theorem segrdyValue_porWith (j : Fin 4) : segrdyValue (State.porWith msize epoch) j.val = 0 := by
  refine BitVec.eq_of_getLsbD_eq fun k hk => ?_
  refine (segrdyValue_bit (State.porWith msize epoch) j ⟨k, hk⟩).trans ?_
  simp [State.porWith, SegTable.por]

end

/-- The offsets below 0x40 of registers that are no pair and read 0 at power-on reset. -/
def zeroLowOffsets : List (BitVec 7) :=
  [0x02, 0x03, 0x04, 0x05, 0x0A, 0x0B, 0x0C, 0x0D, 0x0E, 0x14, 0x18, 0x1A, 0x30, 0x31, 0x32, 0x33, 0x34, 0x38, 0x3F]

/-- The offsets from 0x40 of registers that are no pair, no SEGRDY and not TRGCFG, and read 0 at power-on reset. -/
def zeroHighOffsets : List (BitVec 7) := [0x40, 0x4B, 0x54, 0x57, 0x5C, 0x5D, 0x61, 0x72, 0x74, 0x79]

/-- The pairs that read 0 at power-on reset. -/
def zeroPairs : List Pair :=
  [.vcount, .failcount, .dropcount, .logseq, .logbase, .loglevel, .logwp, .logrp, .zbase, .zlimit, .waddr, .mopcount]

section
variable {msize : BitVec 2} {epoch : Nat} (pads : Vector HW 4) (trgPads : BitVec 4)

theorem readRegister_porWith_low {o : BitVec 7} (ho : o ∈ zeroLowOffsets) :
    readRegister (State.porWith msize epoch) pads trgPads o = some 0 := by
  fin_cases ho <;> exact readRegister_low pads trgPads rfl (by decide)

theorem readRegister_porWith_high {o : BitVec 7} (ho : o ∈ zeroHighOffsets) :
    readRegister (State.porWith msize epoch) pads trgPads o = some 0 := by
  fin_cases ho <;> exact readRegister_high pads trgPads rfl (by decide)

/-- A read at a pair's own offset answers the low half of its value. -/
theorem readRegister_porWith_pair (p : Pair) :
    readRegister (State.porWith msize epoch) pads trgPads (pairOffset p) =
      some (lowHalf (pairValue (State.porWith msize epoch) p)) :=
  readRegister_pair rfl (pairOffset_ne_wdata p).1 (readPair_low _ p)

theorem readRegister_porWith_zeroPair {o : BitVec 7} (ho : o ∈ zeroPairs.map pairOffset) :
    readRegister (State.porWith msize epoch) pads trgPads o = some 0 := by
  fin_cases ho <;> exact readRegister_porWith_pair pads trgPads _

end

/-- Settles O5: each register that is no plain zero by its own value, the others by the part of the map they stand in. -/
theorem registersReadTheirResetValues : Obligations.RegistersReadTheirResetValues := by
  intro msize epoch pads trgPads rd
  have hlow : ∀ {o : BitVec 7}, (ownRegister o && decide (o.toNat < 0x40)) = true →
      rd o = some (readLow (State.porWith msize epoch) o.toNat) := readRegister_low pads trgPads rfl
  have hhigh : ∀ {o : BitVec 7}, (ownRegister o && decide (0x40 ≤ o.toNat)) = true →
      rd o = some (readHigh (State.porWith msize epoch) pads trgPads o.toNat) := readRegister_high pads trgPads rfl
  have hsegrdy : ∀ j : Fin 4, readHigh (State.porWith msize epoch) pads trgPads (0x4C + j.val) = 0 := fun j =>
    (readHigh_segrdy _ _ _ j).trans (segrdyValue_porWith msize epoch j)
  refine ⟨hlow (by decide), hlow (by decide), hlow (by decide),
    (hlow (by decide)).trans (congrArg some (walkstatValue_porWith msize epoch)), hlow (by decide), hhigh (by decide),
    readRegister_porWith_pair pads trgPads .logsize, hhigh (by decide),
    (hhigh (by decide)).trans (congrArg some (memstatValue_porWith msize epoch)), fun o ho => ?_⟩
  have hplace : o ∈ zeroLowOffsets ∨ o ∈ zeroHighOffsets ∨ o ∈ zeroPairs.map pairOffset ∨ o = 0x4C ∨ o = 0x4F ∨
      o = 0x60 := by
    revert o
    decide
  rcases hplace with hlowOffset | hhighOffset | hpair | rfl | rfl | rfl
  · exact readRegister_porWith_low pads trgPads hlowOffset
  · exact readRegister_porWith_high pads trgPads hhighOffset
  · exact readRegister_porWith_zeroPair pads trgPads hpair
  · exact (hhigh (by decide)).trans (congrArg some (hsegrdy 0))
  · exact (hhigh (by decide)).trans (congrArg some (hsegrdy 3))
  · exact (hhigh (by decide)).trans (congrArg some (trgcfgValue_porWith msize epoch))

end Sys2Proof.Machine
end

section
/-! The machine as a whole: the command at the front of the queue, the tick of an empty queue, that every row answers a
next state, and the machine right after reset. -/

namespace Sys2Proof.Machine

/-- Settles O1. -/
theorem stepRunsTheFrontCommand : Obligations.StepRunsTheFrontCommand := by
  intro c rest s hpending
  rw [step, hpending]

/-! ## The tick -/

theorem periodEventDue_iff {p : Period} :
    periodEventDue p = true ↔
      (p.driven = false ∧ p.vec.timing.drv.toNat ≤ p.tick) ∨ (p.strobed = false ∧ p.vec.timing.stb.toNat ≤ p.tick) ∨
        p.vec.timing.per.toNat ≤ p.tick := by
  simp [periodEventDue, or_assoc]

theorem waitEventDue_iff {w : WaitProgress} :
    waitEventDue w = true ↔
      (w.item.kind = .levels ∧ w.sampled = false ∧ w.item.timing.stb.toNat ≤ w.tick) ∨ w.item.timing.per.toNat ≤ w.tick := by
  simp [waitEventDue, sampleDue, and_assoc]

theorem waitMade_iff {s : State} {w : WaitProgress} :
    Claims.waitMade s = some w ↔ s.run.state = .waiting ∧ s.run.cause ≠ .notReady ∧ s.app.wait = some w := by
  simp [Claims.waitMade, and_assoc]

theorem starveDue_iff {s : State} :
    starveDue s = true ↔ s.run.state = .waiting ∧ s.run.cause = .notReady ∧ s.run.starveto ≠ 0 ∧
      ∃ n, s.run.starve = some n ∧ s.run.starveto.toNat * 65536 ≤ n := by
  unfold starveDue
  split
  next n hstarve => simp [starvetoRuns, hstarve, and_assoc]
  next hstarve => simp [hstarve]

theorem timedEventDue_iff {s : State} : timedEventDue s = true ↔ Claims.eventDue s := by
  have hwait : waitIs waitEventDue s = true ↔ ∃ w, Claims.waitMade s = some w ∧ waitEventDue w = true := by
    rw [waitIs_iff]
    simp only [waitMade_iff, and_assoc, exists_and_left]
  simp only [timedEventDue, Bool.or_eq_true, periodIs_iff, hwait, starveDue_iff, periodEventDue_iff, waitEventDue_iff,
    refreshDue, Bool.and_eq_true, decide_eq_true_eq, or_assoc, Claims.eventDue]

theorem tickWait_eq (s : State) :
    tickWait s = { s with app.wait := (Claims.waitMade s).elim s.app.wait fun w => some { w with tick := w.tick + 1 } } := by
  unfold tickWait
  split
  next h =>
    obtain ⟨hstate, hcause, w, hw, _⟩ := waitIs_iff.mp h
    rw [waitMade_iff.mpr ⟨hstate, hcause, hw⟩, hw]
    rfl
  next h =>
    have hnone : Claims.waitMade s = none := by
      refine Option.eq_none_iff_forall_ne_some.mpr fun w hw => h ?_
      obtain ⟨hstate, hcause, hw⟩ := waitMade_iff.mp hw
      exact waitIs_iff.mpr ⟨hstate, hcause, w, hw, rfl⟩
    rw [hnone]
    rfl

theorem tickStarve_eq (s : State) :
    tickStarve s =
      { s with run.starve := if s.run.state = .waiting ∧ s.run.cause = .notReady then s.run.starve.map (· + 1)
                             else s.run.starve } := by
  unfold tickStarve
  split <;> rfl

theorem tickMemory_eq (s : State) :
    tickMemory s =
      { s with
        mem.refTimer := if s.mem.ready then s.mem.refTimer + 1 else s.mem.refTimer
        mem.initTicks := if s.mem.ready = false ∧ s.resetLow = false then min 40000 (s.mem.initTicks + 1)
                         else s.mem.initTicks } := by
  unfold tickMemory
  split
  next hready => rw [if_neg (by simp [hready])]
  next hready =>
    split
    next hlow => rw [if_neg (by simp [hlow])]
    next hlow => rw [if_pos (by simpa using And.intro hready hlow)]

/-- Settles O2. -/
theorem emptyQueueStepIsOneTick : Obligations.EmptyQueueStepIsOneTick := by
  refine ⟨fun s hpending => ⟨by rw [step, hpending], by simp [hpending]⟩, fun s => ⟨fun hdue => ?_, fun hquiet => ?_⟩⟩
  · rw [tick, if_pos (timedEventDue_iff.mpr hdue)]
  · have hmade : Claims.waitMade (tickPeriod s) = Claims.waitMade s := rfl
    rw [tick, if_neg (mt timedEventDue_iff.mp hquiet), tickMemory_eq, tickStarve_eq, tickWait_eq, hmade, tickPeriod]
    cases Claims.waitMade s <;> rfl

/-! ## Every row answers -/

theorem exec_illegalCmd_answers (code : HW) (s : State) : ∃ t, exec (.illegalCmd code) s = .next t := by
  change ∃ t, execIllegalCmd code s = .next t
  unfold execIllegalCmd
  split <;> exact ⟨_, rfl⟩

theorem exec_registerWrite_answers (offset : BitVec 7) (v : HW) (s : State) :
    ∃ t, exec (.registerWrite offset v) s = .next t := by
  change ∃ t, execRegisterWrite offset v s = .next t
  unfold execRegisterWrite
  split <;> exact ⟨_, rfl⟩

theorem exec_answers (c : Instr) (s : State) : ∃ t, exec c s = .next t := by
  cases c with
  | illegalCmd code => exact exec_illegalCmd_answers code s
  | registerWrite offset v => exact exec_registerWrite_answers offset v s
  | _ => exact ⟨_, rfl⟩

/-- Settles O3. -/
theorem everyCommandCompletes : Obligations.EveryCommandCompletes := by
  intro c s
  obtain ⟨t, ht⟩ := exec_answers c s
  exact ⟨t, ht, (exec_outcome ht).pending⟩

/-! ## The reset state -/

/-- Settles O4: the tables are at their reset values, the queues and buffers are empty and nothing runs. -/
theorem resetStateIsSafe : Obligations.ResetStateIsSafe := by
  have hcounts : CountsInRange State.reset :=
    countsInRange_iff.mpr ⟨Nat.zero_le 8, Nat.zero_le 16, ⟨Nat.zero_le 16, Nat.zero_le 4⟩, windowInRange_of_empty rfl rfl rfl rfl⟩
  have hrests : RestsWhenStopped State.reset := AtRest.restsWhenStopped ⟨rfl, rfl, rfl, rfl, rfl⟩
  exact ⟨rfl, hcounts, queueBounded_of_empty rfl nofun rfl, zonesDisjoint_of_por rfl,
    ⟨hrests, fun p _ => ports_por_receive p, nofun, nofun⟩, ⟨nofun, nofun, nofun⟩,
    writerHasRoom_iff.mpr ⟨hrests, writerFits_of_idle (ringInRange_of_por rfl) rfl rfl nofun⟩, nofun⟩

end Sys2Proof.Machine
end
